-- ==== Sys2Proof/Word.lean ====
section
/-! DEFINITION. The two word types of the core (00_scope.md R9). -/

namespace Sys2Proof

/-- A byte: a register, a memory cell, an opcode (00_scope.md R9, R11). -/
abbrev Byte := BitVec 8

/-- A 16-bit word: an address, the program counter, an operand word (00_scope.md R9, R11). -/
abbrev Word := BitVec 16

end Sys2Proof
end

