-- ==== Sys2Proof/Config.lean ====
section
/-! DEFINITION. The parameters of 00_scope.md R10: the record `Config`, and the parameters the spec leaves OPEN as
constants without a body. The defaults are `Sys2Proof.Machine.defaults` (Sys2Proof/Machine/Params.lean). -/

namespace Sys2Proof

/-- One access to the PPU register window as the device sees it (20_memory.md R62, R63). -/
inductive PpuEvent where
  /-- a read routed to the device -/
  | read (address : Word)
  /-- a write routed to the device: the event `(address, byte)` -/
  | write (address : Word) (value : Byte)
  deriving DecidableEq, Repr

/-- `ENTRY_PC` (00_scope.md R10, 92_eei_decisions.md D20): where the reset sequence takes `PC` from. -/
inductive EntryPc where
  /-- from the reset vector: `PC <- MemRead(0xFFFC, 2)` -/
  | vector
  /-- from the host -/
  | address (pc : Word)
  deriving DecidableEq, Repr

/-- `TRACE_DOTS_PER_CYCLE` (00_scope.md R10, 92_eei_decisions.md D3): 1 or 3. -/
inductive DotsPerCycle where
  | one
  | three
  deriving DecidableEq, Repr

/-- The fields of one conformance trace line, in order (70_reset_and_hazards.md R362). -/
inductive TraceField where
  | pc
  | bytes
  | operation
  | operand
  | registers
  deriving DecidableEq, Repr

/-- The configuration record of 00_scope.md R10, less the parameters that are open (below) or fixed (`memSize`). -/
structure Config where
  /-- `ZP_POINTER_WRAP` (D8): an `IZX`/`IZY` pointer's high byte is read within page 0 -/
  zpPointerWrap : Bool
  /-- `NOP_READS_OPERAND` (D10): an informal `NOP` reads its memory operand -/
  nopReadsOperand : Bool
  /-- `TXS_SETS_NZ` (D12) -/
  txsSetsNz : Bool
  /-- `PULL_LOADS_B` (D14): `PLP` and `RTI` load bit 4 into `B` -/
  pullLoadsB : Bool
  /-- `BRK_RETURN_OFFSET` (D15): 0, 1 or 2 -/
  brkReturnOffset : Fin 3
  /-- `RESET_SP` (D19) -/
  resetSp : Byte
  /-- `ENTRY_PC` (D20) -/
  entryPc : EntryPc
  /-- `RESET_CYCLES` (D21) -/
  resetCycles : Nat
  /-- `CYCLE_COUNTER_WIDTH` (D2): none is unbounded -/
  cycleCounterWidth : Option Nat
  /-- `INFORMAL_OPCODES` (D9): the informal opcode bytes that are populated -/
  informalOpcodes : List Byte
  /-- `TRACE_DOTS_PER_CYCLE` (D3) -/
  traceDotsPerCycle : DotsPerCycle
  /-- `TRACE_INFORMAL_PREFIX` (D30), as a list of characters -/
  traceInformalPrefix : List Char
  deriving DecidableEq, Repr

/-- `MEM_SIZE` (20_memory.md R50, D4): the number of byte cells. -/
def Config.memSize : Nat := 0x10000

/-- `PPU_DEVICE`, OPEN (20_memory.md R62, D5): the byte the device answers to a read, given the history of window
accesses before it (newest first) and the address. FREE VALUE: no body, any byte (log 3). -/
opaque Config.ppuAnswer : List PpuEvent → Word → Byte

/-- `TRACE_COLUMNS`, OPEN (70_reset_and_hazards.md R362, D31): the column at which each field of a trace line starts.
FREE VALUE: no body (log 9). -/
opaque Config.traceColumns : TraceField → Nat

end Sys2Proof
end

