-- ==== Sys2Proof/Machine/Params.lean ====
section
/-! DEFINITION. The default values of the parameters of 00_scope.md R10, each from the decision of
92_eei_decisions.md that the table there names. -/

namespace Sys2Proof.Machine

/-- The 33 informal opcode bytes, the default `INFORMAL_OPCODES` (30_encoding.md R86, D9): `LAX`, then `NOP` by
format. -/
def informalBytes : List Byte :=
  [0xA3, 0xA7, 0xAF, 0xB3, 0xB7, 0xBF] ++ [0x1A, 0x3A, 0x5A, 0x7A, 0xDA, 0xFA] ++ [0x80, 0x82, 0x89, 0xC2, 0xE2] ++
    [0x04, 0x44, 0x64] ++ [0x14, 0x34, 0x54, 0x74, 0xD4, 0xF4] ++ [0x0C] ++ [0x1C, 0x3C, 0x5C, 0x7C, 0xDC, 0xFC]

/-- The default configuration (00_scope.md R10). -/
def defaults : Config where
  zpPointerWrap := true
  nopReadsOperand := false
  txsSetsNz := false
  pullLoadsB := false
  brkReturnOffset := 0
  resetSp := 0xFF
  entryPc := .vector
  resetCycles := 0
  cycleCounterWidth := none
  informalOpcodes := informalBytes
  traceDotsPerCycle := .one
  traceInformalPrefix := []

end Sys2Proof.Machine
end

