-- ==== Sys2Proof/Syntax.lean ====
section
/-! DEFINITION. The abstract instructions: the 14 formats (30_encoding.md R81), the operands as written in the
instruction's bytes, the 57 operations, and `Instr`, one constructor per row of opcode_table.json (151 legal and 33
informal opcodes). -/

namespace Sys2Proof

/-- The 14 instruction formats, which are the addressing modes (30_encoding.md R81, R88-R101). -/
inductive Mode where
  | IMP | ACC | IMM | ZP | ZPX | ZPY | ABS | ABX | ABY | IZX | IZY | REL | JABS | JIND
  deriving DecidableEq, Repr

/-- An operand in memory, with the operand bytes of its mode (30_encoding.md R91-R98). -/
inductive MemOperand where
  | zp  (z : Byte)
  | zpx (z : Byte)
  | zpy (z : Byte)
  | abs (w : Word)
  | abx (w : Word)
  | aby (w : Word)
  | izx (z : Byte)
  | izy (z : Byte)
  deriving DecidableEq, Repr

/-- What an instruction's bytes after the opcode say, by format (30_encoding.md R81). -/
inductive Operand where
  | imp
  | acc
  | imm  (v : Byte)
  | mem  (m : MemOperand)
  | rel  (off : Byte)
  | jabs (w : Word)
  | jind (w : Word)
  deriving DecidableEq, Repr

/-- The operand of an instruction that only reads it: a byte of the instruction or a byte of memory
(30_encoding.md R104). -/
inductive Source where
  | imm (v : Byte)
  | mem (m : MemOperand)
  deriving DecidableEq, Repr

/-- The operand of a read-modify-write instruction: `A` or a byte of memory (30_encoding.md R104, R105). -/
inductive Place where
  | acc
  | mem (m : MemOperand)
  deriving DecidableEq, Repr

/-- The operations: the 57 mnemonics of opcode_table.json (30_encoding.md R83, R117). -/
inductive Operation where
  | ADC | SBC | AND | ORA | EOR | BIT | CMP | CPX | CPY | INC | DEC | INX | INY | DEX | DEY
  | ASL | LSR | ROL | ROR
  | BCC | BCS | BEQ | BMI | BNE | BPL | BVC | BVS | JMP | JSR | RTS | BRK | RTI
  | LDA | LDX | LDY | LAX | STA | STX | STY | TAX | TAY | TXA | TYA | TSX | TXS | PHA | PHP | PLA | PLP
  | CLC | SEC | CLI | SEI | CLD | SED | CLV | NOP
  deriving DecidableEq, Repr

/-- An instruction: one constructor per populated opcode, in the order of 30_encoding.md R117. `v` is an immediate
byte, `z` a zero-page byte, `w` the operand word, `off` a branch offset (30_encoding.md R81). An informal `NOP` carries
its opcode byte in its name, since several of them share one format (44_flags_nop.md R308). -/
inductive Instr where
  -- 40_arithmetic_logic.md
  | adcImm (v : Byte)
  | adcZp (z : Byte)
  | adcZpx (z : Byte)
  | adcAbs (w : Word)
  | adcAbx (w : Word)
  | adcAby (w : Word)
  | adcIzx (z : Byte)
  | adcIzy (z : Byte)
  | sbcImm (v : Byte)
  | sbcZp (z : Byte)
  | sbcZpx (z : Byte)
  | sbcAbs (w : Word)
  | sbcAbx (w : Word)
  | sbcAby (w : Word)
  | sbcIzx (z : Byte)
  | sbcIzy (z : Byte)
  | andImm (v : Byte)
  | andZp (z : Byte)
  | andZpx (z : Byte)
  | andAbs (w : Word)
  | andAbx (w : Word)
  | andAby (w : Word)
  | andIzx (z : Byte)
  | andIzy (z : Byte)
  | oraImm (v : Byte)
  | oraZp (z : Byte)
  | oraZpx (z : Byte)
  | oraAbs (w : Word)
  | oraAbx (w : Word)
  | oraAby (w : Word)
  | oraIzx (z : Byte)
  | oraIzy (z : Byte)
  | eorImm (v : Byte)
  | eorZp (z : Byte)
  | eorZpx (z : Byte)
  | eorAbs (w : Word)
  | eorAbx (w : Word)
  | eorAby (w : Word)
  | eorIzx (z : Byte)
  | eorIzy (z : Byte)
  | bitZp (z : Byte)
  | bitAbs (w : Word)
  | cmpImm (v : Byte)
  | cmpZp (z : Byte)
  | cmpZpx (z : Byte)
  | cmpAbs (w : Word)
  | cmpAbx (w : Word)
  | cmpAby (w : Word)
  | cmpIzx (z : Byte)
  | cmpIzy (z : Byte)
  | cpxImm (v : Byte)
  | cpxZp (z : Byte)
  | cpxAbs (w : Word)
  | cpyImm (v : Byte)
  | cpyZp (z : Byte)
  | cpyAbs (w : Word)
  | incZp (z : Byte)
  | incZpx (z : Byte)
  | incAbs (w : Word)
  | incAbx (w : Word)
  | decZp (z : Byte)
  | decZpx (z : Byte)
  | decAbs (w : Word)
  | decAbx (w : Word)
  | inx
  | iny
  | dex
  | dey
  -- 41_shift_rotate.md
  | aslAcc
  | aslZp (z : Byte)
  | aslZpx (z : Byte)
  | aslAbs (w : Word)
  | aslAbx (w : Word)
  | lsrAcc
  | lsrZp (z : Byte)
  | lsrZpx (z : Byte)
  | lsrAbs (w : Word)
  | lsrAbx (w : Word)
  | rolAcc
  | rolZp (z : Byte)
  | rolZpx (z : Byte)
  | rolAbs (w : Word)
  | rolAbx (w : Word)
  | rorAcc
  | rorZp (z : Byte)
  | rorZpx (z : Byte)
  | rorAbs (w : Word)
  | rorAbx (w : Word)
  -- 42_control_transfer.md
  | bcc (off : Byte)
  | bcs (off : Byte)
  | beq (off : Byte)
  | bmi (off : Byte)
  | bne (off : Byte)
  | bpl (off : Byte)
  | bvc (off : Byte)
  | bvs (off : Byte)
  | jmpAbs (w : Word)
  | jmpInd (w : Word)
  | jsr (w : Word)
  | rts
  | brk
  | rti
  -- 43_load_store_transfer_stack.md
  | ldaImm (v : Byte)
  | ldaZp (z : Byte)
  | ldaZpx (z : Byte)
  | ldaAbs (w : Word)
  | ldaAbx (w : Word)
  | ldaAby (w : Word)
  | ldaIzx (z : Byte)
  | ldaIzy (z : Byte)
  | ldxImm (v : Byte)
  | ldxZp (z : Byte)
  | ldxZpy (z : Byte)
  | ldxAbs (w : Word)
  | ldxAby (w : Word)
  | ldyImm (v : Byte)
  | ldyZp (z : Byte)
  | ldyZpx (z : Byte)
  | ldyAbs (w : Word)
  | ldyAbx (w : Word)
  | laxZp (z : Byte)
  | laxZpy (z : Byte)
  | laxAbs (w : Word)
  | laxAby (w : Word)
  | laxIzx (z : Byte)
  | laxIzy (z : Byte)
  | staZp (z : Byte)
  | staZpx (z : Byte)
  | staAbs (w : Word)
  | staAbx (w : Word)
  | staAby (w : Word)
  | staIzx (z : Byte)
  | staIzy (z : Byte)
  | stxZp (z : Byte)
  | stxZpy (z : Byte)
  | stxAbs (w : Word)
  | styZp (z : Byte)
  | styZpx (z : Byte)
  | styAbs (w : Word)
  | tax
  | tay
  | txa
  | tya
  | tsx
  | txs
  | pha
  | php
  | pla
  | plp
  -- 44_flags_nop.md
  | clc
  | sec
  | cli
  | sei
  | cld
  | sed
  | clv
  | nop
  | nop1A
  | nop3A
  | nop5A
  | nop7A
  | nopDA
  | nopFA
  | nop80 (v : Byte)
  | nop82 (v : Byte)
  | nop89 (v : Byte)
  | nopC2 (v : Byte)
  | nopE2 (v : Byte)
  | nop04 (z : Byte)
  | nop44 (z : Byte)
  | nop64 (z : Byte)
  | nop14 (z : Byte)
  | nop34 (z : Byte)
  | nop54 (z : Byte)
  | nop74 (z : Byte)
  | nopD4 (z : Byte)
  | nopF4 (z : Byte)
  | nop0C (w : Word)
  | nop1C (w : Word)
  | nop3C (w : Word)
  | nop5C (w : Word)
  | nop7C (w : Word)
  | nopDC (w : Word)
  | nopFC (w : Word)
  deriving DecidableEq, Repr

end Sys2Proof
end

