-- ==== Sys2Proof/Decode.lean ====
section
/-! DEFINITION. The decoder (30_encoding.md R80-R86), and after it the encoder and each instruction's row of
30_encoding.md R116: opcode, operation, operand, base cycles and page-cross surcharge. Also the byte-order helpers of
the operand word. -/

namespace Sys2Proof

/-- The word with low byte `lo` and high byte `hi` (20_memory.md R57, 00_scope.md R12). -/
def wordOf (lo hi : Byte) : Word := hi ++ lo

/-- The low byte of a word. -/
def lowByte (w : Word) : Byte := w.extractLsb' 0 8

/-- The high byte of a word: its page (00_scope.md R11). -/
def highByte (w : Word) : Byte := w.extractLsb' 8 8

/-- A byte as a 16-bit number (00_scope.md R12, `zext_16`). -/
def zext (b : Byte) : Word := b.setWidth 16

/-- A byte read signed, as a 16-bit number (00_scope.md R12, `sext_16`). -/
def sext (b : Byte) : Word := b.signExtend 16

/-- What one opcode byte stands for: an instruction whose bytes after the opcode are none, one operand byte, or a
little-endian operand word (30_encoding.md R80, R81). -/
inductive OpcodeEntry where
  | one   (i : Instr)
  | two   (f : Byte → Instr)
  | three (f : Word → Instr)

/-- The instruction's length in bytes, known from the opcode alone (30_encoding.md R81). -/
def OpcodeEntry.size : OpcodeEntry → Nat
  | .one _ => 1
  | .two _ => 2
  | .three _ => 3

/-- The decoder map of 30_encoding.md R116 with every informal opcode populated; the other 72 bytes have no entry
(R85). -/
def opcodeEntry : Nat → Option OpcodeEntry
  | 0x00 => some (.one .brk)
  | 0x01 => some (.two .oraIzx)
  | 0x04 => some (.two .nop04)
  | 0x05 => some (.two .oraZp)
  | 0x06 => some (.two .aslZp)
  | 0x08 => some (.one .php)
  | 0x09 => some (.two .oraImm)
  | 0x0A => some (.one .aslAcc)
  | 0x0C => some (.three .nop0C)
  | 0x0D => some (.three .oraAbs)
  | 0x0E => some (.three .aslAbs)
  | 0x10 => some (.two .bpl)
  | 0x11 => some (.two .oraIzy)
  | 0x14 => some (.two .nop14)
  | 0x15 => some (.two .oraZpx)
  | 0x16 => some (.two .aslZpx)
  | 0x18 => some (.one .clc)
  | 0x19 => some (.three .oraAby)
  | 0x1A => some (.one .nop1A)
  | 0x1C => some (.three .nop1C)
  | 0x1D => some (.three .oraAbx)
  | 0x1E => some (.three .aslAbx)
  | 0x20 => some (.three .jsr)
  | 0x21 => some (.two .andIzx)
  | 0x24 => some (.two .bitZp)
  | 0x25 => some (.two .andZp)
  | 0x26 => some (.two .rolZp)
  | 0x28 => some (.one .plp)
  | 0x29 => some (.two .andImm)
  | 0x2A => some (.one .rolAcc)
  | 0x2C => some (.three .bitAbs)
  | 0x2D => some (.three .andAbs)
  | 0x2E => some (.three .rolAbs)
  | 0x30 => some (.two .bmi)
  | 0x31 => some (.two .andIzy)
  | 0x34 => some (.two .nop34)
  | 0x35 => some (.two .andZpx)
  | 0x36 => some (.two .rolZpx)
  | 0x38 => some (.one .sec)
  | 0x39 => some (.three .andAby)
  | 0x3A => some (.one .nop3A)
  | 0x3C => some (.three .nop3C)
  | 0x3D => some (.three .andAbx)
  | 0x3E => some (.three .rolAbx)
  | 0x40 => some (.one .rti)
  | 0x41 => some (.two .eorIzx)
  | 0x44 => some (.two .nop44)
  | 0x45 => some (.two .eorZp)
  | 0x46 => some (.two .lsrZp)
  | 0x48 => some (.one .pha)
  | 0x49 => some (.two .eorImm)
  | 0x4A => some (.one .lsrAcc)
  | 0x4C => some (.three .jmpAbs)
  | 0x4D => some (.three .eorAbs)
  | 0x4E => some (.three .lsrAbs)
  | 0x50 => some (.two .bvc)
  | 0x51 => some (.two .eorIzy)
  | 0x54 => some (.two .nop54)
  | 0x55 => some (.two .eorZpx)
  | 0x56 => some (.two .lsrZpx)
  | 0x58 => some (.one .cli)
  | 0x59 => some (.three .eorAby)
  | 0x5A => some (.one .nop5A)
  | 0x5C => some (.three .nop5C)
  | 0x5D => some (.three .eorAbx)
  | 0x5E => some (.three .lsrAbx)
  | 0x60 => some (.one .rts)
  | 0x61 => some (.two .adcIzx)
  | 0x64 => some (.two .nop64)
  | 0x65 => some (.two .adcZp)
  | 0x66 => some (.two .rorZp)
  | 0x68 => some (.one .pla)
  | 0x69 => some (.two .adcImm)
  | 0x6A => some (.one .rorAcc)
  | 0x6C => some (.three .jmpInd)
  | 0x6D => some (.three .adcAbs)
  | 0x6E => some (.three .rorAbs)
  | 0x70 => some (.two .bvs)
  | 0x71 => some (.two .adcIzy)
  | 0x74 => some (.two .nop74)
  | 0x75 => some (.two .adcZpx)
  | 0x76 => some (.two .rorZpx)
  | 0x78 => some (.one .sei)
  | 0x79 => some (.three .adcAby)
  | 0x7A => some (.one .nop7A)
  | 0x7C => some (.three .nop7C)
  | 0x7D => some (.three .adcAbx)
  | 0x7E => some (.three .rorAbx)
  | 0x80 => some (.two .nop80)
  | 0x81 => some (.two .staIzx)
  | 0x82 => some (.two .nop82)
  | 0x84 => some (.two .styZp)
  | 0x85 => some (.two .staZp)
  | 0x86 => some (.two .stxZp)
  | 0x88 => some (.one .dey)
  | 0x89 => some (.two .nop89)
  | 0x8A => some (.one .txa)
  | 0x8C => some (.three .styAbs)
  | 0x8D => some (.three .staAbs)
  | 0x8E => some (.three .stxAbs)
  | 0x90 => some (.two .bcc)
  | 0x91 => some (.two .staIzy)
  | 0x94 => some (.two .styZpx)
  | 0x95 => some (.two .staZpx)
  | 0x96 => some (.two .stxZpy)
  | 0x98 => some (.one .tya)
  | 0x99 => some (.three .staAby)
  | 0x9A => some (.one .txs)
  | 0x9D => some (.three .staAbx)
  | 0xA0 => some (.two .ldyImm)
  | 0xA1 => some (.two .ldaIzx)
  | 0xA2 => some (.two .ldxImm)
  | 0xA3 => some (.two .laxIzx)
  | 0xA4 => some (.two .ldyZp)
  | 0xA5 => some (.two .ldaZp)
  | 0xA6 => some (.two .ldxZp)
  | 0xA7 => some (.two .laxZp)
  | 0xA8 => some (.one .tay)
  | 0xA9 => some (.two .ldaImm)
  | 0xAA => some (.one .tax)
  | 0xAC => some (.three .ldyAbs)
  | 0xAD => some (.three .ldaAbs)
  | 0xAE => some (.three .ldxAbs)
  | 0xAF => some (.three .laxAbs)
  | 0xB0 => some (.two .bcs)
  | 0xB1 => some (.two .ldaIzy)
  | 0xB3 => some (.two .laxIzy)
  | 0xB4 => some (.two .ldyZpx)
  | 0xB5 => some (.two .ldaZpx)
  | 0xB6 => some (.two .ldxZpy)
  | 0xB7 => some (.two .laxZpy)
  | 0xB8 => some (.one .clv)
  | 0xB9 => some (.three .ldaAby)
  | 0xBA => some (.one .tsx)
  | 0xBC => some (.three .ldyAbx)
  | 0xBD => some (.three .ldaAbx)
  | 0xBE => some (.three .ldxAby)
  | 0xBF => some (.three .laxAby)
  | 0xC0 => some (.two .cpyImm)
  | 0xC1 => some (.two .cmpIzx)
  | 0xC2 => some (.two .nopC2)
  | 0xC4 => some (.two .cpyZp)
  | 0xC5 => some (.two .cmpZp)
  | 0xC6 => some (.two .decZp)
  | 0xC8 => some (.one .iny)
  | 0xC9 => some (.two .cmpImm)
  | 0xCA => some (.one .dex)
  | 0xCC => some (.three .cpyAbs)
  | 0xCD => some (.three .cmpAbs)
  | 0xCE => some (.three .decAbs)
  | 0xD0 => some (.two .bne)
  | 0xD1 => some (.two .cmpIzy)
  | 0xD4 => some (.two .nopD4)
  | 0xD5 => some (.two .cmpZpx)
  | 0xD6 => some (.two .decZpx)
  | 0xD8 => some (.one .cld)
  | 0xD9 => some (.three .cmpAby)
  | 0xDA => some (.one .nopDA)
  | 0xDC => some (.three .nopDC)
  | 0xDD => some (.three .cmpAbx)
  | 0xDE => some (.three .decAbx)
  | 0xE0 => some (.two .cpxImm)
  | 0xE1 => some (.two .sbcIzx)
  | 0xE2 => some (.two .nopE2)
  | 0xE4 => some (.two .cpxZp)
  | 0xE5 => some (.two .sbcZp)
  | 0xE6 => some (.two .incZp)
  | 0xE8 => some (.one .inx)
  | 0xE9 => some (.two .sbcImm)
  | 0xEA => some (.one .nop)
  | 0xEC => some (.three .cpxAbs)
  | 0xED => some (.three .sbcAbs)
  | 0xEE => some (.three .incAbs)
  | 0xF0 => some (.two .beq)
  | 0xF1 => some (.two .sbcIzy)
  | 0xF4 => some (.two .nopF4)
  | 0xF5 => some (.two .sbcZpx)
  | 0xF6 => some (.two .incZpx)
  | 0xF8 => some (.one .sed)
  | 0xF9 => some (.three .sbcAby)
  | 0xFA => some (.one .nopFA)
  | 0xFC => some (.three .nopFC)
  | 0xFD => some (.three .sbcAbx)
  | 0xFE => some (.three .incAbx)
  | _ => none

/-- Whether a populated opcode is in the instruction set as configured: an informal opcode only while it is in
`INFORMAL_OPCODES` (30_encoding.md R86). -/
def opcodeEnabled (c : Config) (op : Byte) : Bool :=
  !Machine.informalBytes.contains op || c.informalOpcodes.contains op

/-- `decode(op)` of 30_encoding.md R82 under a configuration. -/
def decodeOpcode (c : Config) (op : Byte) : Option OpcodeEntry :=
  if opcodeEnabled c op then opcodeEntry op.toNat else none

/-- Why bytes are no instruction. -/
inductive DecodeReject where
  /-- the opcode byte has no descriptor: the decode error of 60_exceptions.md R321 -/
  | noDescriptor (op : Byte)
  /-- the byte string ends inside the instruction (never in the machine, whose fetch wraps at 0xFFFF) -/
  | truncated (op : Byte)
  /-- no byte at all -/
  | noBytes
  deriving DecidableEq, Repr

/-- The decoder on any bytes: the instruction at their head and the bytes after it, or the reason there is none
(30_encoding.md R80-R86). -/
def decode (c : Config) : List Byte → Except DecodeReject (Instr × List Byte)
  | [] => .error .noBytes
  | op :: rest =>
    match decodeOpcode c op with
    | none => .error (.noDescriptor op)
    | some (.one i) => .ok (i, rest)
    | some (.two f) =>
      match rest with
      | b1 :: rest' => .ok (f b1, rest')
      | [] => .error (.truncated op)
    | some (.three f) =>
      match rest with
      | lo :: hi :: rest' => .ok (f (wordOf lo hi), rest')
      | _ => .error (.truncated op)

/-- The operand's format (30_encoding.md R81). -/
def MemOperand.mode : MemOperand → Mode
  | .zp _ => .ZP
  | .zpx _ => .ZPX
  | .zpy _ => .ZPY
  | .abs _ => .ABS
  | .abx _ => .ABX
  | .aby _ => .ABY
  | .izx _ => .IZX
  | .izy _ => .IZY

/-- The instruction's format (30_encoding.md R81). -/
def Operand.mode : Operand → Mode
  | .imp => .IMP
  | .acc => .ACC
  | .imm _ => .IMM
  | .mem m => m.mode
  | .rel _ => .REL
  | .jabs _ => .JABS
  | .jind _ => .JIND

/-- The instruction's length in bytes, opcode included (30_encoding.md R81). -/
def Mode.size : Mode → Nat
  | .IMP => 1
  | .ACC => 1
  | .IMM => 2
  | .ZP => 2
  | .ZPX => 2
  | .ZPY => 2
  | .ABS => 3
  | .ABX => 3
  | .ABY => 3
  | .IZX => 2
  | .IZY => 2
  | .REL => 2
  | .JABS => 3
  | .JIND => 3

/-- The two bytes of an operand word, low byte first (30_encoding.md R81). -/
def wordBytes (w : Word) : List Byte := [lowByte w, highByte w]

/-- The operand bytes of a memory operand (30_encoding.md R81). -/
def MemOperand.bytes : MemOperand → List Byte
  | .zp z => [z]
  | .zpx z => [z]
  | .zpy z => [z]
  | .abs w => wordBytes w
  | .abx w => wordBytes w
  | .aby w => wordBytes w
  | .izx z => [z]
  | .izy z => [z]

/-- The bytes after the opcode (30_encoding.md R81). -/
def Operand.bytes : Operand → List Byte
  | .imp => []
  | .acc => []
  | .imm v => [v]
  | .mem m => m.bytes
  | .rel off => [off]
  | .jabs w => wordBytes w
  | .jind w => wordBytes w

/-- A row of 30_encoding.md R116 with its operand filled in: the opcode byte and the four fields of a descriptor
(30_encoding.md R83), the mode being the operand's. -/
structure Row where
  opcode : Byte
  operation : Operation
  operand : Operand
  baseCycles : Nat
  pagePenalty : Bool
  deriving DecidableEq, Repr

/-- Each instruction's row of 30_encoding.md R116 (opcode_table.json). -/
def Instr.row : Instr → Row
  | .adcImm v => ⟨0x69, .ADC, (.imm v), 2, false⟩
  | .adcZp z => ⟨0x65, .ADC, (.mem (.zp z)), 3, false⟩
  | .adcZpx z => ⟨0x75, .ADC, (.mem (.zpx z)), 4, false⟩
  | .adcAbs w => ⟨0x6D, .ADC, (.mem (.abs w)), 4, false⟩
  | .adcAbx w => ⟨0x7D, .ADC, (.mem (.abx w)), 4, true⟩
  | .adcAby w => ⟨0x79, .ADC, (.mem (.aby w)), 4, true⟩
  | .adcIzx z => ⟨0x61, .ADC, (.mem (.izx z)), 6, false⟩
  | .adcIzy z => ⟨0x71, .ADC, (.mem (.izy z)), 5, true⟩
  | .sbcImm v => ⟨0xE9, .SBC, (.imm v), 2, false⟩
  | .sbcZp z => ⟨0xE5, .SBC, (.mem (.zp z)), 3, false⟩
  | .sbcZpx z => ⟨0xF5, .SBC, (.mem (.zpx z)), 4, false⟩
  | .sbcAbs w => ⟨0xED, .SBC, (.mem (.abs w)), 4, false⟩
  | .sbcAbx w => ⟨0xFD, .SBC, (.mem (.abx w)), 4, true⟩
  | .sbcAby w => ⟨0xF9, .SBC, (.mem (.aby w)), 4, true⟩
  | .sbcIzx z => ⟨0xE1, .SBC, (.mem (.izx z)), 6, false⟩
  | .sbcIzy z => ⟨0xF1, .SBC, (.mem (.izy z)), 5, true⟩
  | .andImm v => ⟨0x29, .AND, (.imm v), 2, false⟩
  | .andZp z => ⟨0x25, .AND, (.mem (.zp z)), 3, false⟩
  | .andZpx z => ⟨0x35, .AND, (.mem (.zpx z)), 4, false⟩
  | .andAbs w => ⟨0x2D, .AND, (.mem (.abs w)), 4, false⟩
  | .andAbx w => ⟨0x3D, .AND, (.mem (.abx w)), 4, true⟩
  | .andAby w => ⟨0x39, .AND, (.mem (.aby w)), 4, true⟩
  | .andIzx z => ⟨0x21, .AND, (.mem (.izx z)), 6, false⟩
  | .andIzy z => ⟨0x31, .AND, (.mem (.izy z)), 5, true⟩
  | .oraImm v => ⟨0x09, .ORA, (.imm v), 2, false⟩
  | .oraZp z => ⟨0x05, .ORA, (.mem (.zp z)), 3, false⟩
  | .oraZpx z => ⟨0x15, .ORA, (.mem (.zpx z)), 4, false⟩
  | .oraAbs w => ⟨0x0D, .ORA, (.mem (.abs w)), 4, false⟩
  | .oraAbx w => ⟨0x1D, .ORA, (.mem (.abx w)), 4, true⟩
  | .oraAby w => ⟨0x19, .ORA, (.mem (.aby w)), 4, true⟩
  | .oraIzx z => ⟨0x01, .ORA, (.mem (.izx z)), 6, false⟩
  | .oraIzy z => ⟨0x11, .ORA, (.mem (.izy z)), 5, true⟩
  | .eorImm v => ⟨0x49, .EOR, (.imm v), 2, false⟩
  | .eorZp z => ⟨0x45, .EOR, (.mem (.zp z)), 3, false⟩
  | .eorZpx z => ⟨0x55, .EOR, (.mem (.zpx z)), 4, false⟩
  | .eorAbs w => ⟨0x4D, .EOR, (.mem (.abs w)), 4, false⟩
  | .eorAbx w => ⟨0x5D, .EOR, (.mem (.abx w)), 4, true⟩
  | .eorAby w => ⟨0x59, .EOR, (.mem (.aby w)), 4, true⟩
  | .eorIzx z => ⟨0x41, .EOR, (.mem (.izx z)), 6, false⟩
  | .eorIzy z => ⟨0x51, .EOR, (.mem (.izy z)), 5, true⟩
  | .bitZp z => ⟨0x24, .BIT, (.mem (.zp z)), 3, false⟩
  | .bitAbs w => ⟨0x2C, .BIT, (.mem (.abs w)), 4, false⟩
  | .cmpImm v => ⟨0xC9, .CMP, (.imm v), 2, false⟩
  | .cmpZp z => ⟨0xC5, .CMP, (.mem (.zp z)), 3, false⟩
  | .cmpZpx z => ⟨0xD5, .CMP, (.mem (.zpx z)), 4, false⟩
  | .cmpAbs w => ⟨0xCD, .CMP, (.mem (.abs w)), 4, false⟩
  | .cmpAbx w => ⟨0xDD, .CMP, (.mem (.abx w)), 4, true⟩
  | .cmpAby w => ⟨0xD9, .CMP, (.mem (.aby w)), 4, true⟩
  | .cmpIzx z => ⟨0xC1, .CMP, (.mem (.izx z)), 6, false⟩
  | .cmpIzy z => ⟨0xD1, .CMP, (.mem (.izy z)), 5, true⟩
  | .cpxImm v => ⟨0xE0, .CPX, (.imm v), 2, false⟩
  | .cpxZp z => ⟨0xE4, .CPX, (.mem (.zp z)), 3, false⟩
  | .cpxAbs w => ⟨0xEC, .CPX, (.mem (.abs w)), 4, false⟩
  | .cpyImm v => ⟨0xC0, .CPY, (.imm v), 2, false⟩
  | .cpyZp z => ⟨0xC4, .CPY, (.mem (.zp z)), 3, false⟩
  | .cpyAbs w => ⟨0xCC, .CPY, (.mem (.abs w)), 4, false⟩
  | .incZp z => ⟨0xE6, .INC, (.mem (.zp z)), 5, false⟩
  | .incZpx z => ⟨0xF6, .INC, (.mem (.zpx z)), 6, false⟩
  | .incAbs w => ⟨0xEE, .INC, (.mem (.abs w)), 6, false⟩
  | .incAbx w => ⟨0xFE, .INC, (.mem (.abx w)), 7, false⟩
  | .decZp z => ⟨0xC6, .DEC, (.mem (.zp z)), 5, false⟩
  | .decZpx z => ⟨0xD6, .DEC, (.mem (.zpx z)), 6, false⟩
  | .decAbs w => ⟨0xCE, .DEC, (.mem (.abs w)), 6, false⟩
  | .decAbx w => ⟨0xDE, .DEC, (.mem (.abx w)), 7, false⟩
  | .inx => ⟨0xE8, .INX, .imp, 2, false⟩
  | .iny => ⟨0xC8, .INY, .imp, 2, false⟩
  | .dex => ⟨0xCA, .DEX, .imp, 2, false⟩
  | .dey => ⟨0x88, .DEY, .imp, 2, false⟩
  | .aslAcc => ⟨0x0A, .ASL, .acc, 2, false⟩
  | .aslZp z => ⟨0x06, .ASL, (.mem (.zp z)), 5, false⟩
  | .aslZpx z => ⟨0x16, .ASL, (.mem (.zpx z)), 6, false⟩
  | .aslAbs w => ⟨0x0E, .ASL, (.mem (.abs w)), 6, false⟩
  | .aslAbx w => ⟨0x1E, .ASL, (.mem (.abx w)), 7, false⟩
  | .lsrAcc => ⟨0x4A, .LSR, .acc, 2, false⟩
  | .lsrZp z => ⟨0x46, .LSR, (.mem (.zp z)), 5, false⟩
  | .lsrZpx z => ⟨0x56, .LSR, (.mem (.zpx z)), 6, false⟩
  | .lsrAbs w => ⟨0x4E, .LSR, (.mem (.abs w)), 6, false⟩
  | .lsrAbx w => ⟨0x5E, .LSR, (.mem (.abx w)), 7, false⟩
  | .rolAcc => ⟨0x2A, .ROL, .acc, 2, false⟩
  | .rolZp z => ⟨0x26, .ROL, (.mem (.zp z)), 5, false⟩
  | .rolZpx z => ⟨0x36, .ROL, (.mem (.zpx z)), 6, false⟩
  | .rolAbs w => ⟨0x2E, .ROL, (.mem (.abs w)), 6, false⟩
  | .rolAbx w => ⟨0x3E, .ROL, (.mem (.abx w)), 7, false⟩
  | .rorAcc => ⟨0x6A, .ROR, .acc, 2, false⟩
  | .rorZp z => ⟨0x66, .ROR, (.mem (.zp z)), 5, false⟩
  | .rorZpx z => ⟨0x76, .ROR, (.mem (.zpx z)), 6, false⟩
  | .rorAbs w => ⟨0x6E, .ROR, (.mem (.abs w)), 6, false⟩
  | .rorAbx w => ⟨0x7E, .ROR, (.mem (.abx w)), 7, false⟩
  | .bcc off => ⟨0x90, .BCC, (.rel off), 2, false⟩
  | .bcs off => ⟨0xB0, .BCS, (.rel off), 2, false⟩
  | .beq off => ⟨0xF0, .BEQ, (.rel off), 2, false⟩
  | .bmi off => ⟨0x30, .BMI, (.rel off), 2, false⟩
  | .bne off => ⟨0xD0, .BNE, (.rel off), 2, false⟩
  | .bpl off => ⟨0x10, .BPL, (.rel off), 2, false⟩
  | .bvc off => ⟨0x50, .BVC, (.rel off), 2, false⟩
  | .bvs off => ⟨0x70, .BVS, (.rel off), 2, false⟩
  | .jmpAbs w => ⟨0x4C, .JMP, (.jabs w), 3, false⟩
  | .jmpInd w => ⟨0x6C, .JMP, (.jind w), 5, false⟩
  | .jsr w => ⟨0x20, .JSR, (.jabs w), 6, false⟩
  | .rts => ⟨0x60, .RTS, .imp, 6, false⟩
  | .brk => ⟨0x00, .BRK, .imp, 7, false⟩
  | .rti => ⟨0x40, .RTI, .imp, 6, false⟩
  | .ldaImm v => ⟨0xA9, .LDA, (.imm v), 2, false⟩
  | .ldaZp z => ⟨0xA5, .LDA, (.mem (.zp z)), 3, false⟩
  | .ldaZpx z => ⟨0xB5, .LDA, (.mem (.zpx z)), 4, false⟩
  | .ldaAbs w => ⟨0xAD, .LDA, (.mem (.abs w)), 4, false⟩
  | .ldaAbx w => ⟨0xBD, .LDA, (.mem (.abx w)), 4, true⟩
  | .ldaAby w => ⟨0xB9, .LDA, (.mem (.aby w)), 4, true⟩
  | .ldaIzx z => ⟨0xA1, .LDA, (.mem (.izx z)), 6, false⟩
  | .ldaIzy z => ⟨0xB1, .LDA, (.mem (.izy z)), 5, true⟩
  | .ldxImm v => ⟨0xA2, .LDX, (.imm v), 2, false⟩
  | .ldxZp z => ⟨0xA6, .LDX, (.mem (.zp z)), 3, false⟩
  | .ldxZpy z => ⟨0xB6, .LDX, (.mem (.zpy z)), 4, false⟩
  | .ldxAbs w => ⟨0xAE, .LDX, (.mem (.abs w)), 4, false⟩
  | .ldxAby w => ⟨0xBE, .LDX, (.mem (.aby w)), 4, true⟩
  | .ldyImm v => ⟨0xA0, .LDY, (.imm v), 2, false⟩
  | .ldyZp z => ⟨0xA4, .LDY, (.mem (.zp z)), 3, false⟩
  | .ldyZpx z => ⟨0xB4, .LDY, (.mem (.zpx z)), 4, false⟩
  | .ldyAbs w => ⟨0xAC, .LDY, (.mem (.abs w)), 4, false⟩
  | .ldyAbx w => ⟨0xBC, .LDY, (.mem (.abx w)), 4, true⟩
  | .laxZp z => ⟨0xA7, .LAX, (.mem (.zp z)), 3, false⟩
  | .laxZpy z => ⟨0xB7, .LAX, (.mem (.zpy z)), 4, false⟩
  | .laxAbs w => ⟨0xAF, .LAX, (.mem (.abs w)), 4, false⟩
  | .laxAby w => ⟨0xBF, .LAX, (.mem (.aby w)), 4, true⟩
  | .laxIzx z => ⟨0xA3, .LAX, (.mem (.izx z)), 6, false⟩
  | .laxIzy z => ⟨0xB3, .LAX, (.mem (.izy z)), 5, true⟩
  | .staZp z => ⟨0x85, .STA, (.mem (.zp z)), 3, false⟩
  | .staZpx z => ⟨0x95, .STA, (.mem (.zpx z)), 4, false⟩
  | .staAbs w => ⟨0x8D, .STA, (.mem (.abs w)), 4, false⟩
  | .staAbx w => ⟨0x9D, .STA, (.mem (.abx w)), 5, false⟩
  | .staAby w => ⟨0x99, .STA, (.mem (.aby w)), 5, false⟩
  | .staIzx z => ⟨0x81, .STA, (.mem (.izx z)), 6, false⟩
  | .staIzy z => ⟨0x91, .STA, (.mem (.izy z)), 6, false⟩
  | .stxZp z => ⟨0x86, .STX, (.mem (.zp z)), 3, false⟩
  | .stxZpy z => ⟨0x96, .STX, (.mem (.zpy z)), 4, false⟩
  | .stxAbs w => ⟨0x8E, .STX, (.mem (.abs w)), 4, false⟩
  | .styZp z => ⟨0x84, .STY, (.mem (.zp z)), 3, false⟩
  | .styZpx z => ⟨0x94, .STY, (.mem (.zpx z)), 4, false⟩
  | .styAbs w => ⟨0x8C, .STY, (.mem (.abs w)), 4, false⟩
  | .tax => ⟨0xAA, .TAX, .imp, 2, false⟩
  | .tay => ⟨0xA8, .TAY, .imp, 2, false⟩
  | .txa => ⟨0x8A, .TXA, .imp, 2, false⟩
  | .tya => ⟨0x98, .TYA, .imp, 2, false⟩
  | .tsx => ⟨0xBA, .TSX, .imp, 2, false⟩
  | .txs => ⟨0x9A, .TXS, .imp, 2, false⟩
  | .pha => ⟨0x48, .PHA, .imp, 3, false⟩
  | .php => ⟨0x08, .PHP, .imp, 3, false⟩
  | .pla => ⟨0x68, .PLA, .imp, 4, false⟩
  | .plp => ⟨0x28, .PLP, .imp, 4, false⟩
  | .clc => ⟨0x18, .CLC, .imp, 2, false⟩
  | .sec => ⟨0x38, .SEC, .imp, 2, false⟩
  | .cli => ⟨0x58, .CLI, .imp, 2, false⟩
  | .sei => ⟨0x78, .SEI, .imp, 2, false⟩
  | .cld => ⟨0xD8, .CLD, .imp, 2, false⟩
  | .sed => ⟨0xF8, .SED, .imp, 2, false⟩
  | .clv => ⟨0xB8, .CLV, .imp, 2, false⟩
  | .nop => ⟨0xEA, .NOP, .imp, 2, false⟩
  | .nop1A => ⟨0x1A, .NOP, .imp, 2, false⟩
  | .nop3A => ⟨0x3A, .NOP, .imp, 2, false⟩
  | .nop5A => ⟨0x5A, .NOP, .imp, 2, false⟩
  | .nop7A => ⟨0x7A, .NOP, .imp, 2, false⟩
  | .nopDA => ⟨0xDA, .NOP, .imp, 2, false⟩
  | .nopFA => ⟨0xFA, .NOP, .imp, 2, false⟩
  | .nop80 v => ⟨0x80, .NOP, (.imm v), 2, false⟩
  | .nop82 v => ⟨0x82, .NOP, (.imm v), 2, false⟩
  | .nop89 v => ⟨0x89, .NOP, (.imm v), 2, false⟩
  | .nopC2 v => ⟨0xC2, .NOP, (.imm v), 2, false⟩
  | .nopE2 v => ⟨0xE2, .NOP, (.imm v), 2, false⟩
  | .nop04 z => ⟨0x04, .NOP, (.mem (.zp z)), 3, false⟩
  | .nop44 z => ⟨0x44, .NOP, (.mem (.zp z)), 3, false⟩
  | .nop64 z => ⟨0x64, .NOP, (.mem (.zp z)), 3, false⟩
  | .nop14 z => ⟨0x14, .NOP, (.mem (.zpx z)), 4, false⟩
  | .nop34 z => ⟨0x34, .NOP, (.mem (.zpx z)), 4, false⟩
  | .nop54 z => ⟨0x54, .NOP, (.mem (.zpx z)), 4, false⟩
  | .nop74 z => ⟨0x74, .NOP, (.mem (.zpx z)), 4, false⟩
  | .nopD4 z => ⟨0xD4, .NOP, (.mem (.zpx z)), 4, false⟩
  | .nopF4 z => ⟨0xF4, .NOP, (.mem (.zpx z)), 4, false⟩
  | .nop0C w => ⟨0x0C, .NOP, (.mem (.abs w)), 4, false⟩
  | .nop1C w => ⟨0x1C, .NOP, (.mem (.abx w)), 4, true⟩
  | .nop3C w => ⟨0x3C, .NOP, (.mem (.abx w)), 4, true⟩
  | .nop5C w => ⟨0x5C, .NOP, (.mem (.abx w)), 4, true⟩
  | .nop7C w => ⟨0x7C, .NOP, (.mem (.abx w)), 4, true⟩
  | .nopDC w => ⟨0xDC, .NOP, (.mem (.abx w)), 4, true⟩
  | .nopFC w => ⟨0xFC, .NOP, (.mem (.abx w)), 4, true⟩

/-- The instruction's length in bytes. -/
def Instr.size (i : Instr) : Nat := i.row.operand.mode.size

/-- The encoder: the instruction's bytes at ascending addresses, opcode first (30_encoding.md R80, R81). -/
def encode (i : Instr) : List Byte := i.row.opcode :: i.row.operand.bytes

/-- The three low bytes of a number, least significant first. -/
def threeBytes (n : Nat) : List Byte := [BitVec.ofNat 8 n, BitVec.ofNat 8 (n / 0x100), BitVec.ofNat 8 (n / 0x10000)]

/-- The instruction the decoder reads, under the default parameters, from the `nbits` low bits of `w` laid out lowest
byte first, every byte above them 0. -/
def decodeTableWord (nbits w : Nat) : Option Instr :=
  match decode Machine.defaults (threeBytes (w % 2 ^ nbits)) with
  | .ok (i, _) => some i
  | .error _ => none

end Sys2Proof
end

