-- ==== Sys2Proof/Machine/Memory.lean ====
section
/-! DEFINITION. The memory array (20_memory.md R50, R51) as a list of the cells that differ from what an unlisted
address reads as, and its plain reads and writes (no device window: that is Sys2Proof/Machine/Ops.lean). -/

namespace Sys2Proof.Machine

/-- The memory array: `(address, byte)` cells; canonical when `Memory.wf`. -/
abbrev Memory := List Host.Cell

/-- What an unlisted address reads as. DESIGN CHOICE (log 5): `INIT_MEM` is open (R37, D22); an unlisted cell reads
0x00, and a cell of any other content is listed. -/
def Memory.unlisted (_ : Nat) : Byte := 0x00

/-- The byte at an address. -/
def Memory.lookup : Memory → Nat → Byte
  | [], k => Memory.unlisted k
  | c :: m, k => if c.1 = k then c.2 else Memory.lookup m k

/-- A cell put at its place by address. -/
def Memory.place (k : Nat) (v : Byte) : Memory → Memory
  | [] => [(k, v)]
  | c :: m => if k < c.1 then (k, v) :: c :: m else c :: Memory.place k v m

/-- The memory without a listed cell at an address. -/
def Memory.unlist (m : Memory) (k : Nat) : Memory := m.filter fun c => c.1 != k

/-- One byte stored: the cell is listed unless its byte is what an unlisted address reads as. -/
def Memory.store (m : Memory) (k : Nat) (v : Byte) : Memory :=
  if v = Memory.unlisted k then m.unlist k else Memory.place k v (m.unlist k)

/-- The cells from address `k` on are in canonical form. -/
def Memory.wfFrom (k : Nat) : Memory → Bool
  | [] => true
  | c :: m => decide (k ≤ c.1) && decide (c.1 < Config.memSize) && decide (c.2 ≠ Memory.unlisted c.1) &&
      Memory.wfFrom (c.1 + 1) m

/-- The canonical form: addresses strictly rising and inside the array, no entry equal to what an unlisted address
reads as. -/
def Memory.wf (m : Memory) : Bool := Memory.wfFrom 0 m

/-- The array byte at a 16-bit address. -/
def Memory.read (m : Memory) (a : Word) : Byte := m.lookup a.toNat

/-- The array with one byte written at a 16-bit address. -/
def Memory.write (m : Memory) (a : Word) (v : Byte) : Memory := m.store a.toNat v

/-- The little-endian word at `a` and `a + 1` of the array (20_memory.md R53). -/
def Memory.readWord (m : Memory) (a : Word) : Word := wordOf (m.read a) (m.read (a + 1))

/-- Bytes copied into the array at ascending addresses, addresses modulo 0x10000 (70_reset_and_hazards.md R351). -/
def Memory.load (m : Memory) (a : Word) : List Byte → Memory
  | [] => m
  | b :: bs => Memory.load (m.write a b) (a + 1) bs

end Sys2Proof.Machine
end

