-- ==== Sys2Proof/Machine/State.lean ====
section
/-! DEFINITION. The state of the machine (10_state.md R20), why a step stops, the state after reset (10_state.md R37,
70_reset_and_hazards.md R350) and the updates of one field. -/

namespace Sys2Proof.Machine

/-- The seven status flags (10_state.md R27). Bit 5 of the packed byte has no storage (R30). -/
structure Flags where
  /-- negative -/
  n : Bool
  /-- overflow -/
  v : Bool
  /-- break: a stored flag of this core (R31) -/
  b : Bool
  /-- decimal: carried, never consulted by arithmetic (R32) -/
  d : Bool
  /-- interrupt disable: gates nothing (R33) -/
  i : Bool
  /-- zero -/
  z : Bool
  /-- carry -/
  c : Bool
  deriving DecidableEq, Repr

/-- What the fault latch records: the address and the byte of an opcode without a descriptor (10_state.md R35,
60_exceptions.md R321). -/
structure DecodeError where
  pc : Word
  opcode : Byte
  deriving DecidableEq, Repr

/-- Why the machine stops with a fault. -/
inductive Fault where
  /-- The decode error (60_exceptions.md R320-R322): raised by `step` when the opcode byte fetched at `pc` has no
  descriptor. Safe: the spec says that this step has no other effect and that the core stops. -/
  | decodeError (e : DecodeError)
  /-- A step asked for while `FAULT` holds a decode error (60_exceptions.md R323, 93_implementation_defined.md U2):
  raised by `step`, which takes no step. Safe. -/
  | stopped (e : DecodeError)
  deriving DecidableEq, Repr

/-- Why the machine gives a state no step. -/
inductive Refusal where
  /-- An instruction with no meaning yet, by its mnemonic: raised only by an arm of `exec`; no arm does. Safe. -/
  | notModelled (mnemonic : String)
  /-- A step asked for before `PC` is seeded (70_reset_and_hazards.md R352, D32): raised by `step`. Safe: the spec
  refuses it. It carries `pc0` and the opcode byte (R362, D34). `PC` is undefined here, so they are what `refuseUnseeded`
  takes from the state, whatever that is (log 18). -/
  | pcNotSeeded (pc0 : Word) (opcode : Byte)
  deriving DecidableEq, Repr

/-- The state record. The architectural state of 10_state.md R20 is `a` to `mem`; `pcSeeded` and `ppuLog` are state
that 70_reset_and_hazards.md R352 and 20_memory.md R62, R63 imply; `cfg` is the configuration of 00_scope.md R10, which
no step writes (log 1). -/
structure State where
  /-- the accumulator (R21) -/
  a : Byte
  /-- the index register X (R22) -/
  x : Byte
  /-- the index register Y (R23) -/
  y : Byte
  /-- the stack pointer, an offset into page 1 (R26) -/
  sp : Byte
  /-- the program counter (R25) -/
  pc : Word
  /-- the status flags (R27) -/
  p : Flags
  /-- the cycle counter `CYC`, in CPU cycles (R34) -/
  cyc : Nat
  /-- the fault latch `FAULT` (R35) -/
  fault : Option DecodeError
  /-- the memory array (20_memory.md R50) -/
  mem : Memory
  /-- whether `PC` has been seeded (70_reset_and_hazards.md R352) -/
  pcSeeded : Bool
  /-- the history of PPU window accesses, newest first (20_memory.md R62, R63; the model's own field, log 4) -/
  ppuLog : List PpuEvent
  /-- the configuration (00_scope.md R10; log 1) -/
  cfg : Config
  deriving DecidableEq, Repr

/-- The flags after reset: `I = 1`, all others 0 (10_state.md R37). -/
def Flags.reset : Flags := ⟨false, false, false, false, true, false, false⟩

/-- The machine right after the whole reset sequence of 70_reset_and_hazards.md R350 under the default parameters,
with nothing loaded: 10_state.md R37, and `PC` seeded from the reset vector of the array as it stands (logs 5, 6). -/
def State.reset : State where
  a := 0x00
  x := 0x00
  y := 0x00
  sp := defaults.resetSp
  pc := Memory.readWord [] 0xFFFC
  p := Flags.reset
  cyc := defaults.resetCycles
  fault := none
  mem := []
  pcSeeded := true
  ppuLog := []
  cfg := defaults

def State.setA (s : State) (v : Byte) : State := { s with a := v }
def State.setX (s : State) (v : Byte) : State := { s with x := v }
def State.setY (s : State) (v : Byte) : State := { s with y := v }
def State.setSp (s : State) (v : Byte) : State := { s with sp := v }
def State.setPc (s : State) (t : Word) : State := { s with pc := t }
def State.setP (s : State) (p : Flags) : State := { s with p := p }
def State.setCyc (s : State) (n : Nat) : State := { s with cyc := n }
def State.setFault (s : State) (f : Option DecodeError) : State := { s with fault := f }
def State.setMem (s : State) (m : Memory) : State := { s with mem := m }
def State.setPcSeeded (s : State) (b : Bool) : State := { s with pcSeeded := b }
def State.setPpuLog (s : State) (l : List PpuEvent) : State := { s with ppuLog := l }

end Sys2Proof.Machine
end

