-- ==== Sys2Proof/Machine/Flags.lean ====
section
/-! DEFINITION. The status byte (10_state.md R28-R31) and the 8-bit ALU with every flag computation
(40_arithmetic_logic.md R140-R159, 41_shift_rotate.md R200-R204). An ALU operation is a function of bytes and flags. -/

namespace Sys2Proof.Machine

/-- A flag as a byte 0 or 1. -/
def bitByte (b : Bool) : Byte := if b then 1 else 0

/-- `getStatus()`: the flags packed as `N V 1 B D I Z C` (10_state.md R28). -/
def getStatus (p : Flags) : Byte :=
  (bitByte p.n <<< 7) ||| (bitByte p.v <<< 6) ||| ((1 : Byte) <<< 5) ||| (bitByte p.b <<< 4) |||
    (bitByte p.d <<< 3) ||| (bitByte p.i <<< 2) ||| (bitByte p.z <<< 1) ||| bitByte p.c

/-- `setStatus(x)`: every flag from its bit of the byte, bit 5 ignored (10_state.md R29). -/
def setStatus (x : Byte) : Flags :=
  { n := x[7], v := x[6], b := x[4], d := x[3], i := x[2], z := x[1], c := x[0] }

/-- `PullStatus(x)` of 42_control_transfer.md R234: `setStatus` but for bit 4, loaded only when `PULL_LOADS_B`. -/
def pullStatus (c : Config) (x : Byte) (p : Flags) : Flags :=
  { setStatus x with b := if c.pullLoadsB then x[4] else p.b }

/-- The status byte as `PHP` and `BRK` push it: bit 4 set (43_load_store_transfer_stack.md R274,
42_control_transfer.md R233). -/
def pushedStatus (p : Flags) : Byte := getStatus p ||| 0x10

/-- `NZ(v)` (40_arithmetic_logic.md R140). -/
def setNZ (v : Byte) (p : Flags) : Flags := { p with z := decide (v = 0), n := v[7] }

/-- `ADC` (40_arithmetic_logic.md R145): the sum and the flags. Binary whatever `D` (R142). -/
def aluAdc (a m : Byte) (p : Flags) : Byte × Flags :=
  let t := a.toNat + m.toNat + p.c.toNat
  let r := BitVec.ofNat 8 t
  (r, setNZ r { p with v := ((a ^^^ r) &&& (m ^^^ r))[7], c := decide (t > 0xFF) })

/-- `SBC` (40_arithmetic_logic.md R146): the difference and the flags; `C` is the not-borrow. -/
def aluSbc (a m : Byte) (p : Flags) : Byte × Flags :=
  let t : Int := (a.toNat : Int) - (m.toNat : Int) - (1 - (p.c.toNat : Int))
  let r := BitVec.ofInt 8 t
  (r, setNZ r { p with c := decide (t ≥ 0), v := ((a ^^^ m) &&& (a ^^^ r))[7] })

/-- `CMP`, `CPX`, `CPY` of a register against an operand (40_arithmetic_logic.md R151-R153): flags only. -/
def aluCompare (r m : Byte) (p : Flags) : Flags :=
  setNZ (r - m) { p with c := decide (r.toNat ≥ m.toNat) }

/-- `BIT` (40_arithmetic_logic.md R150): flags only. -/
def aluBit (a m : Byte) (p : Flags) : Flags :=
  { p with z := decide (a &&& m = 0), n := m[7], v := m[6] }

/-- `INC` (40_arithmetic_logic.md R154); also the new index of `INX`, `INY` (R156, R157). -/
def aluInc (m : Byte) (p : Flags) : Byte × Flags := (m + 1, setNZ (m + 1) p)

/-- `DEC` (40_arithmetic_logic.md R155); also the new index of `DEX`, `DEY` (R158, R159). -/
def aluDec (m : Byte) (p : Flags) : Byte × Flags := (m - 1, setNZ (m - 1) p)

/-- `ASL` (41_shift_rotate.md R201). -/
def aluAsl (m : Byte) (p : Flags) : Byte × Flags :=
  let r := m <<< 1
  (r, setNZ r { p with c := m[7] })

/-- `LSR` (41_shift_rotate.md R202). -/
def aluLsr (m : Byte) (p : Flags) : Byte × Flags :=
  let r := m >>> 1
  (r, setNZ r { p with c := m[0] })

/-- `ROL` (41_shift_rotate.md R203): the old carry comes in at bit 0. -/
def aluRol (m : Byte) (p : Flags) : Byte × Flags :=
  let r := (m <<< 1) ||| bitByte p.c
  (r, setNZ r { p with c := m[7] })

/-- `ROR` (41_shift_rotate.md R204): the old carry comes in at bit 7. -/
def aluRor (m : Byte) (p : Flags) : Byte × Flags :=
  let r := (m >>> 1) ||| (bitByte p.c <<< 7)
  (r, setNZ r { p with c := m[0] })

end Sys2Proof.Machine
end

