-- ==== Sys2Proof/Machine/Ops.lean ====
section
/-! DEFINITION. The named operations of the machine: bus accesses with the PPU window, the stack, the cycle counter,
the end of an instruction, and taking and leaving the software trap. An access that reads gives the byte and the state
after it, since a read of the window is seen by the device. -/

namespace Sys2Proof.Machine

/-- The PPU register window: exactly 0x2000-0x2007 and 0x4014 (20_memory.md R61). -/
def inWindow (a : Word) : Bool := (decide (0x2000 ≤ a.toNat) && decide (a.toNat ≤ 0x2007)) || decide (a.toNat = 0x4014)

/-- The address of a window access (20_memory.md R62, R63). -/
def ppuEventAddress : PpuEvent → Word
  | .read a => a
  | .write a _ => a

/-- `MemRead(a, 1)` (20_memory.md R52, R62, R64): the array cell, or the device's answer in the window. -/
def memRead (a : Word) (s : State) : Byte × State :=
  if inWindow a then (Config.ppuAnswer s.ppuLog a, s.setPpuLog (.read a :: s.ppuLog)) else (s.mem.read a, s)

/-- `MemWrite(a, 1, v)` (20_memory.md R52, R63, R64): the array cell, or an event to the device in the window. -/
def memWrite (a : Word) (v : Byte) (s : State) : State :=
  if inWindow a then s.setPpuLog (.write a v :: s.ppuLog) else s.setMem (s.mem.write a v)

/-- `MemRead(a, 2)` (20_memory.md R53): little-endian, low byte first, no wrap within a page. -/
def memRead16 (a : Word) (s : State) : Word × State :=
  let lo := memRead a s
  let hi := memRead (a + 1) lo.2
  (wordOf lo.1 hi.1, hi.2)

/-- `MemWrite(a, 2, w)` (20_memory.md R55); no instruction uses it. -/
def memWrite16 (a : Word) (w : Word) (s : State) : State :=
  memWrite (a + 1) (highByte w) (memWrite a (lowByte w) s)

/-- The address of the stack byte at an offset (10_state.md R26). -/
def stackAddress (sp : Byte) : Word := 0x0100 + zext sp

/-- `Push(v)` (20_memory.md R58). -/
def push (v : Byte) (s : State) : State :=
  (memWrite (stackAddress s.sp) v s).setSp (s.sp - 1)

/-- `Pop()` (20_memory.md R59). -/
def pop (s : State) : Byte × State :=
  memRead (stackAddress (s.sp + 1)) (s.setSp (s.sp + 1))

/-- A value stored into `CYC`: modulo 2^w when `CYCLE_COUNTER_WIDTH = w` (10_state.md R34). -/
def cycleValue (c : Config) (n : Nat) : Nat :=
  match c.cycleCounterWidth with
  | none => n
  | some w => n % 2 ^ w

/-- `CYC <- CYC + n` (10_state.md R34). -/
def charge (n : Nat) (s : State) : State := s.setCyc (cycleValue s.cfg (s.cyc + n))

/-- The end of an instruction that is no control transfer: `PC` past its bytes, and its cost (30_encoding.md R107,
R108). -/
def advance (size cost : Nat) (s : State) : State := charge cost (s.setPc (s.pc + BitVec.ofNat 16 size))

/-- Whether two addresses are on different pages (00_scope.md R11, 30_encoding.md R103). -/
def pagesDiffer (a b : Word) : Bool := decide (highByte a ≠ highByte b)

/-- TAKING THE SOFTWARE TRAP (60_exceptions.md R324, 42_control_transfer.md R233): the return address high byte first,
the status byte with bit 4 set, `I` set, then `PC` from the vector at 0xFFFE. -/
def takeTrap (s : State) : State :=
  let ret := s.pc + BitVec.ofNat 16 s.cfg.brkReturnOffset.val
  let pushed := push (pushedStatus s.p) (push (lowByte ret) (push (highByte ret) s))
  let vector := memRead16 0xFFFE (pushed.setP { pushed.p with i := true })
  vector.2.setPc vector.1

/-- RETURNING FROM THE TRAP (60_exceptions.md R325, 42_control_transfer.md R234): the status, then `PC` low byte
first, with no adjustment. -/
def returnFromTrap (s : State) : State :=
  let x := pop s
  let lo := pop (x.2.setP (pullStatus x.2.cfg x.1 x.2.p))
  let hi := pop lo.2
  hi.2.setPc (wordOf lo.1 hi.1)

end Sys2Proof.Machine
end

