-- ==== Sys2Proof/Machine/Operands.lean ====
section
/-! DEFINITION. The addressing-mode resolver (30_encoding.md R87-R105) and the shapes of an instruction: reading an
operand, changing a place, storing, no operand, branching, jumping. `Operand()` and `WriteBack` apply only where their
location exists: that is in the types `Source`, `Place` and `MemOperand` (R104, R105). -/

namespace Sys2Proof.Machine

/-- The outcome of an instruction. -/
abbrev Result := Host.Outcome State Fault Refusal

/-- A resolved memory operand: `mem(ea, crossed)` of 30_encoding.md R87, and the state after the pointer reads. -/
structure Resolved where
  ea : Word
  crossed : Bool
  after : State

/-- The address of a pointer's high byte, for a pointer whose low byte is at zero-page address `p`: within page 0 when
`ZP_POINTER_WRAP` (30_encoding.md R97, R98). -/
def pointerHighAddress (c : Config) (p : Byte) : Word := if c.zpPointerWrap then zext (p + 1) else zext p + 1

/-- The word at a zero-page pointer, low byte read first (30_encoding.md R97, R98). -/
def readPointer (p : Byte) (s : State) : Word × State :=
  let lo := memRead (zext p) s
  let hi := memRead (pointerHighAddress s.cfg p) lo.2
  (wordOf lo.1 hi.1, hi.2)

/-- `ea = base + index` with its page-cross bit (30_encoding.md R95, R96, R98). -/
def indexed (base : Word) (index : Byte) (after : State) : Resolved :=
  ⟨base + zext index, pagesDiffer base (base + zext index), after⟩

/-- The effective address of a memory operand (30_encoding.md R91-R98, R102, R103). -/
def resolve (m : MemOperand) (s : State) : Resolved :=
  match m with
  | .zp z => ⟨zext z, false, s⟩
  | .zpx z => ⟨zext (z + s.x), false, s⟩
  | .zpy z => ⟨zext (z + s.y), false, s⟩
  | .abs w => ⟨w, false, s⟩
  | .abx w => indexed w s.x s
  | .aby w => indexed w s.y s
  | .izx z =>
    let pointer := readPointer (z + s.x) s
    ⟨pointer.1, false, pointer.2⟩
  | .izy z =>
    let pointer := readPointer z s
    indexed pointer.1 s.y pointer.2

/-- An operand that was read: its value, its page-cross bit, and the state after the reads. -/
structure Fetched where
  value : Byte
  crossed : Bool
  after : State

/-- `Operand()` of an instruction that only reads it (30_encoding.md R90, R104). -/
def readOperand (src : Source) (s : State) : Fetched :=
  match src with
  | .imm v => ⟨v, false, s⟩
  | .mem m =>
    let r := resolve m s
    let b := memRead r.ea r.after
    ⟨b.1, r.crossed, b.2⟩

/-- The length of an instruction with a memory operand (30_encoding.md R81). -/
def memSizeOf (m : MemOperand) : Nat := m.mode.size

/-- The length of an instruction with a read operand (30_encoding.md R81). -/
def sourceSize : Source → Nat
  | .imm _ => 2
  | .mem m => memSizeOf m

/-- An instruction that reads its operand and then works on registers and flags; the page-cross surcharge applies
(30_encoding.md R107, R110). -/
def readInstr (f : Byte → State → State) (src : Source) (base : Nat) (s : State) : Result :=
  let m := readOperand src s
  .next (advance (sourceSize src) (base + m.crossed.toNat) (f m.value m.after))

/-- An instruction that changes `A` or a memory byte: one read, then one write of the same place; no surcharge
(30_encoding.md R105, R110, R112). -/
def modifyInstr (f : Byte → Flags → Byte × Flags) (place : Place) (base : Nat) (s : State) : Result :=
  match place with
  | .acc =>
    let r := f s.a s.p
    .next (advance 1 base ((s.setA r.1).setP r.2))
  | .mem m =>
    let e := resolve m s
    let b := memRead e.ea e.after
    let r := f b.1 b.2.p
    .next (advance (memSizeOf m) base ((memWrite e.ea r.1 b.2).setP r.2))

/-- A store: one write, no read of the address, no surcharge (30_encoding.md R110, R112). -/
def storeInstr (v : Byte) (m : MemOperand) (base : Nat) (s : State) : Result :=
  let e := resolve m s
  .next (advance (memSizeOf m) base (memWrite e.ea v e.after))

/-- An instruction of one byte without an operand (30_encoding.md R88). -/
def impliedInstr (f : State → State) (base : Nat) (s : State) : Result := .next (advance 1 base (f s))

/-- The address after a branch (30_encoding.md R99). -/
def branchNext (s : State) : Word := s.pc + 2

/-- The target of a branch (30_encoding.md R99). -/
def branchTarget (off : Byte) (s : State) : Word := branchNext s + sext off

/-- A conditional branch and its surcharge (42_control_transfer.md R220, 30_encoding.md R111). -/
def branchInstr (taken : Bool) (off : Byte) (base : Nat) (s : State) : Result :=
  if taken then
    .next (charge (base + (1 + (pagesDiffer (branchNext s) (branchTarget off s)).toNat)) (s.setPc (branchTarget off s)))
  else .next (charge base (s.setPc (branchNext s)))

/-- The address of the high byte of an indirect jump's target: it wraps within the pointer's page (30_encoding.md
R101). -/
def jumpHighAddress (w : Word) : Word := (w &&& 0xFF00) ||| ((w + 1) &&& 0x00FF)

/-- The target of an indirect jump, low byte read first (30_encoding.md R101). -/
def jumpTarget (w : Word) (s : State) : Word × State :=
  let lo := memRead w s
  let hi := memRead (jumpHighAddress w) lo.2
  (wordOf lo.1 hi.1, hi.2)

/-- An instruction that sets `PC` itself: its effect, then its cost (30_encoding.md R107, R108). -/
def transferInstr (f : State → State) (base : Nat) (s : State) : Result := .next (charge base (f s))

end Sys2Proof.Machine
end

