-- ==== Sys2Proof/Machine/Arithmetic.lean ====
section
/-! DEFINITION. Meanings of 40_arithmetic_logic.md: ADC SBC AND ORA EOR BIT CMP CPX CPY INC DEC INX INY DEX
DEY. First what each does to registers and flags with its operand, then one meaning per opcode. -/

namespace Sys2Proof.Machine

/-- `ADC` on `A` (R145). -/
def opAdc (m : Byte) (s : State) : State :=
  let r := aluAdc s.a m s.p
  (s.setA r.1).setP r.2

/-- `SBC` on `A` (R146). -/
def opSbc (m : Byte) (s : State) : State :=
  let r := aluSbc s.a m s.p
  (s.setA r.1).setP r.2

/-- A value put into `A` with `NZ` of it. -/
def loadA (v : Byte) (s : State) : State := (s.setA v).setP (setNZ v s.p)

/-- A value put into `X` with `NZ` of it. -/
def loadX (v : Byte) (s : State) : State := (s.setX v).setP (setNZ v s.p)

/-- A value put into `Y` with `NZ` of it. -/
def loadY (v : Byte) (s : State) : State := (s.setY v).setP (setNZ v s.p)

/-- `AND` (R147). -/
def opAnd (m : Byte) (s : State) : State := loadA (s.a &&& m) s

/-- `ORA` (R148). -/
def opOra (m : Byte) (s : State) : State := loadA (s.a ||| m) s

/-- `EOR` (R149). -/
def opEor (m : Byte) (s : State) : State := loadA (s.a ^^^ m) s

/-- `BIT` (R150). -/
def opBit (m : Byte) (s : State) : State := s.setP (aluBit s.a m s.p)

/-- `CMP` (R151). -/
def opCmp (m : Byte) (s : State) : State := s.setP (aluCompare s.a m s.p)

/-- `CPX` (R152). -/
def opCpx (m : Byte) (s : State) : State := s.setP (aluCompare s.x m s.p)

/-- `CPY` (R153). -/
def opCpy (m : Byte) (s : State) : State := s.setP (aluCompare s.y m s.p)

/-- `INX` (R156). -/
def opInx (s : State) : State :=
  let r := aluInc s.x s.p
  (s.setX r.1).setP r.2

/-- `INY` (R157). -/
def opIny (s : State) : State :=
  let r := aluInc s.y s.p
  (s.setY r.1).setP r.2

/-- `DEX` (R158). -/
def opDex (s : State) : State :=
  let r := aluDec s.x s.p
  (s.setX r.1).setP r.2

/-- `DEY` (R159). -/
def opDey (s : State) : State :=
  let r := aluDec s.y s.p
  (s.setY r.1).setP r.2

/-- `ADC` Immediate, opcode 69 (R145). -/
def execAdcImm (v : Byte) (s : State) : Result := readInstr opAdc (.imm v) 2 s

/-- `ADC` ZeroPage, opcode 65 (R145). -/
def execAdcZp (z : Byte) (s : State) : Result := readInstr opAdc (.mem (.zp z)) 3 s

/-- `ADC` ZeroPageX, opcode 75 (R145). -/
def execAdcZpx (z : Byte) (s : State) : Result := readInstr opAdc (.mem (.zpx z)) 4 s

/-- `ADC` Absolute, opcode 6D (R145). -/
def execAdcAbs (w : Word) (s : State) : Result := readInstr opAdc (.mem (.abs w)) 4 s

/-- `ADC` AbsoluteX, opcode 7D (R145). -/
def execAdcAbx (w : Word) (s : State) : Result := readInstr opAdc (.mem (.abx w)) 4 s

/-- `ADC` AbsoluteY, opcode 79 (R145). -/
def execAdcAby (w : Word) (s : State) : Result := readInstr opAdc (.mem (.aby w)) 4 s

/-- `ADC` IndirectX, opcode 61 (R145). -/
def execAdcIzx (z : Byte) (s : State) : Result := readInstr opAdc (.mem (.izx z)) 6 s

/-- `ADC` IndirectY, opcode 71 (R145). -/
def execAdcIzy (z : Byte) (s : State) : Result := readInstr opAdc (.mem (.izy z)) 5 s

/-- `SBC` Immediate, opcode E9 (R146). -/
def execSbcImm (v : Byte) (s : State) : Result := readInstr opSbc (.imm v) 2 s

/-- `SBC` ZeroPage, opcode E5 (R146). -/
def execSbcZp (z : Byte) (s : State) : Result := readInstr opSbc (.mem (.zp z)) 3 s

/-- `SBC` ZeroPageX, opcode F5 (R146). -/
def execSbcZpx (z : Byte) (s : State) : Result := readInstr opSbc (.mem (.zpx z)) 4 s

/-- `SBC` Absolute, opcode ED (R146). -/
def execSbcAbs (w : Word) (s : State) : Result := readInstr opSbc (.mem (.abs w)) 4 s

/-- `SBC` AbsoluteX, opcode FD (R146). -/
def execSbcAbx (w : Word) (s : State) : Result := readInstr opSbc (.mem (.abx w)) 4 s

/-- `SBC` AbsoluteY, opcode F9 (R146). -/
def execSbcAby (w : Word) (s : State) : Result := readInstr opSbc (.mem (.aby w)) 4 s

/-- `SBC` IndirectX, opcode E1 (R146). -/
def execSbcIzx (z : Byte) (s : State) : Result := readInstr opSbc (.mem (.izx z)) 6 s

/-- `SBC` IndirectY, opcode F1 (R146). -/
def execSbcIzy (z : Byte) (s : State) : Result := readInstr opSbc (.mem (.izy z)) 5 s

/-- `AND` Immediate, opcode 29 (R147). -/
def execAndImm (v : Byte) (s : State) : Result := readInstr opAnd (.imm v) 2 s

/-- `AND` ZeroPage, opcode 25 (R147). -/
def execAndZp (z : Byte) (s : State) : Result := readInstr opAnd (.mem (.zp z)) 3 s

/-- `AND` ZeroPageX, opcode 35 (R147). -/
def execAndZpx (z : Byte) (s : State) : Result := readInstr opAnd (.mem (.zpx z)) 4 s

/-- `AND` Absolute, opcode 2D (R147). -/
def execAndAbs (w : Word) (s : State) : Result := readInstr opAnd (.mem (.abs w)) 4 s

/-- `AND` AbsoluteX, opcode 3D (R147). -/
def execAndAbx (w : Word) (s : State) : Result := readInstr opAnd (.mem (.abx w)) 4 s

/-- `AND` AbsoluteY, opcode 39 (R147). -/
def execAndAby (w : Word) (s : State) : Result := readInstr opAnd (.mem (.aby w)) 4 s

/-- `AND` IndirectX, opcode 21 (R147). -/
def execAndIzx (z : Byte) (s : State) : Result := readInstr opAnd (.mem (.izx z)) 6 s

/-- `AND` IndirectY, opcode 31 (R147). -/
def execAndIzy (z : Byte) (s : State) : Result := readInstr opAnd (.mem (.izy z)) 5 s

/-- `ORA` Immediate, opcode 09 (R148). -/
def execOraImm (v : Byte) (s : State) : Result := readInstr opOra (.imm v) 2 s

/-- `ORA` ZeroPage, opcode 05 (R148). -/
def execOraZp (z : Byte) (s : State) : Result := readInstr opOra (.mem (.zp z)) 3 s

/-- `ORA` ZeroPageX, opcode 15 (R148). -/
def execOraZpx (z : Byte) (s : State) : Result := readInstr opOra (.mem (.zpx z)) 4 s

/-- `ORA` Absolute, opcode 0D (R148). -/
def execOraAbs (w : Word) (s : State) : Result := readInstr opOra (.mem (.abs w)) 4 s

/-- `ORA` AbsoluteX, opcode 1D (R148). -/
def execOraAbx (w : Word) (s : State) : Result := readInstr opOra (.mem (.abx w)) 4 s

/-- `ORA` AbsoluteY, opcode 19 (R148). -/
def execOraAby (w : Word) (s : State) : Result := readInstr opOra (.mem (.aby w)) 4 s

/-- `ORA` IndirectX, opcode 01 (R148). -/
def execOraIzx (z : Byte) (s : State) : Result := readInstr opOra (.mem (.izx z)) 6 s

/-- `ORA` IndirectY, opcode 11 (R148). -/
def execOraIzy (z : Byte) (s : State) : Result := readInstr opOra (.mem (.izy z)) 5 s

/-- `EOR` Immediate, opcode 49 (R149). -/
def execEorImm (v : Byte) (s : State) : Result := readInstr opEor (.imm v) 2 s

/-- `EOR` ZeroPage, opcode 45 (R149). -/
def execEorZp (z : Byte) (s : State) : Result := readInstr opEor (.mem (.zp z)) 3 s

/-- `EOR` ZeroPageX, opcode 55 (R149). -/
def execEorZpx (z : Byte) (s : State) : Result := readInstr opEor (.mem (.zpx z)) 4 s

/-- `EOR` Absolute, opcode 4D (R149). -/
def execEorAbs (w : Word) (s : State) : Result := readInstr opEor (.mem (.abs w)) 4 s

/-- `EOR` AbsoluteX, opcode 5D (R149). -/
def execEorAbx (w : Word) (s : State) : Result := readInstr opEor (.mem (.abx w)) 4 s

/-- `EOR` AbsoluteY, opcode 59 (R149). -/
def execEorAby (w : Word) (s : State) : Result := readInstr opEor (.mem (.aby w)) 4 s

/-- `EOR` IndirectX, opcode 41 (R149). -/
def execEorIzx (z : Byte) (s : State) : Result := readInstr opEor (.mem (.izx z)) 6 s

/-- `EOR` IndirectY, opcode 51 (R149). -/
def execEorIzy (z : Byte) (s : State) : Result := readInstr opEor (.mem (.izy z)) 5 s

/-- `BIT` ZeroPage, opcode 24 (R150). -/
def execBitZp (z : Byte) (s : State) : Result := readInstr opBit (.mem (.zp z)) 3 s

/-- `BIT` Absolute, opcode 2C (R150). -/
def execBitAbs (w : Word) (s : State) : Result := readInstr opBit (.mem (.abs w)) 4 s

/-- `CMP` Immediate, opcode C9 (R151). -/
def execCmpImm (v : Byte) (s : State) : Result := readInstr opCmp (.imm v) 2 s

/-- `CMP` ZeroPage, opcode C5 (R151). -/
def execCmpZp (z : Byte) (s : State) : Result := readInstr opCmp (.mem (.zp z)) 3 s

/-- `CMP` ZeroPageX, opcode D5 (R151). -/
def execCmpZpx (z : Byte) (s : State) : Result := readInstr opCmp (.mem (.zpx z)) 4 s

/-- `CMP` Absolute, opcode CD (R151). -/
def execCmpAbs (w : Word) (s : State) : Result := readInstr opCmp (.mem (.abs w)) 4 s

/-- `CMP` AbsoluteX, opcode DD (R151). -/
def execCmpAbx (w : Word) (s : State) : Result := readInstr opCmp (.mem (.abx w)) 4 s

/-- `CMP` AbsoluteY, opcode D9 (R151). -/
def execCmpAby (w : Word) (s : State) : Result := readInstr opCmp (.mem (.aby w)) 4 s

/-- `CMP` IndirectX, opcode C1 (R151). -/
def execCmpIzx (z : Byte) (s : State) : Result := readInstr opCmp (.mem (.izx z)) 6 s

/-- `CMP` IndirectY, opcode D1 (R151). -/
def execCmpIzy (z : Byte) (s : State) : Result := readInstr opCmp (.mem (.izy z)) 5 s

/-- `CPX` Immediate, opcode E0 (R152). -/
def execCpxImm (v : Byte) (s : State) : Result := readInstr opCpx (.imm v) 2 s

/-- `CPX` ZeroPage, opcode E4 (R152). -/
def execCpxZp (z : Byte) (s : State) : Result := readInstr opCpx (.mem (.zp z)) 3 s

/-- `CPX` Absolute, opcode EC (R152). -/
def execCpxAbs (w : Word) (s : State) : Result := readInstr opCpx (.mem (.abs w)) 4 s

/-- `CPY` Immediate, opcode C0 (R153). -/
def execCpyImm (v : Byte) (s : State) : Result := readInstr opCpy (.imm v) 2 s

/-- `CPY` ZeroPage, opcode C4 (R153). -/
def execCpyZp (z : Byte) (s : State) : Result := readInstr opCpy (.mem (.zp z)) 3 s

/-- `CPY` Absolute, opcode CC (R153). -/
def execCpyAbs (w : Word) (s : State) : Result := readInstr opCpy (.mem (.abs w)) 4 s

/-- `INC` ZeroPage, opcode E6 (R154). -/
def execIncZp (z : Byte) (s : State) : Result := modifyInstr aluInc (.mem (.zp z)) 5 s

/-- `INC` ZeroPageX, opcode F6 (R154). -/
def execIncZpx (z : Byte) (s : State) : Result := modifyInstr aluInc (.mem (.zpx z)) 6 s

/-- `INC` Absolute, opcode EE (R154). -/
def execIncAbs (w : Word) (s : State) : Result := modifyInstr aluInc (.mem (.abs w)) 6 s

/-- `INC` AbsoluteX, opcode FE (R154). -/
def execIncAbx (w : Word) (s : State) : Result := modifyInstr aluInc (.mem (.abx w)) 7 s

/-- `DEC` ZeroPage, opcode C6 (R155). -/
def execDecZp (z : Byte) (s : State) : Result := modifyInstr aluDec (.mem (.zp z)) 5 s

/-- `DEC` ZeroPageX, opcode D6 (R155). -/
def execDecZpx (z : Byte) (s : State) : Result := modifyInstr aluDec (.mem (.zpx z)) 6 s

/-- `DEC` Absolute, opcode CE (R155). -/
def execDecAbs (w : Word) (s : State) : Result := modifyInstr aluDec (.mem (.abs w)) 6 s

/-- `DEC` AbsoluteX, opcode DE (R155). -/
def execDecAbx (w : Word) (s : State) : Result := modifyInstr aluDec (.mem (.abx w)) 7 s

/-- `INX`, opcode E8 (R156). -/
def execInx (s : State) : Result := impliedInstr opInx 2 s

/-- `INY`, opcode C8 (R157). -/
def execIny (s : State) : Result := impliedInstr opIny 2 s

/-- `DEX`, opcode CA (R158). -/
def execDex (s : State) : Result := impliedInstr opDex 2 s

/-- `DEY`, opcode 88 (R159). -/
def execDey (s : State) : Result := impliedInstr opDey 2 s

end Sys2Proof.Machine
end

