-- ==== Sys2Proof/Machine/Control.lean ====
section
/-! DEFINITION. Meanings of 42_control_transfer.md: the eight branches, JMP, JSR, RTS, and BRK and RTI over the
trap operations of Sys2Proof/Machine/Ops.lean. Each sets `PC` itself. -/

namespace Sys2Proof.Machine

/-- `JMP` absolute (R229). -/
def opJmp (w : Word) (s : State) : State := s.setPc w

/-- `JMP` indirect (R230). -/
def opJmpIndirect (w : Word) (s : State) : State :=
  let t := jumpTarget w s
  t.2.setPc t.1

/-- `JSR` (R231): the address of its own last byte is pushed, high byte first. -/
def opJsr (w : Word) (s : State) : State :=
  let ret := s.pc + 2
  (push (lowByte ret) (push (highByte ret) s)).setPc w

/-- `RTS` (R232): the popped address plus 1. -/
def opRts (s : State) : State :=
  let lo := pop s
  let hi := pop lo.2
  hi.2.setPc (wordOf lo.1 hi.1 + 1)

/-- `BCC`, opcode 90 (R221). -/
def execBcc (off : Byte) (s : State) : Result := branchInstr (!s.p.c) off 2 s

/-- `BCS`, opcode B0 (R222). -/
def execBcs (off : Byte) (s : State) : Result := branchInstr s.p.c off 2 s

/-- `BEQ`, opcode F0 (R223). -/
def execBeq (off : Byte) (s : State) : Result := branchInstr s.p.z off 2 s

/-- `BMI`, opcode 30 (R224). -/
def execBmi (off : Byte) (s : State) : Result := branchInstr s.p.n off 2 s

/-- `BNE`, opcode D0 (R225). -/
def execBne (off : Byte) (s : State) : Result := branchInstr (!s.p.z) off 2 s

/-- `BPL`, opcode 10 (R226). -/
def execBpl (off : Byte) (s : State) : Result := branchInstr (!s.p.n) off 2 s

/-- `BVC`, opcode 50 (R227). -/
def execBvc (off : Byte) (s : State) : Result := branchInstr (!s.p.v) off 2 s

/-- `BVS`, opcode 70 (R228). -/
def execBvs (off : Byte) (s : State) : Result := branchInstr s.p.v off 2 s

/-- `JMP` absolute, opcode 4C (R229). -/
def execJmpAbs (w : Word) (s : State) : Result := transferInstr (opJmp w) 3 s

/-- `JMP` indirect, opcode 6C (R230). -/
def execJmpInd (w : Word) (s : State) : Result := transferInstr (opJmpIndirect w) 5 s

/-- `JSR`, opcode 20 (R231). -/
def execJsr (w : Word) (s : State) : Result := transferInstr (opJsr w) 6 s

/-- `RTS`, opcode 60 (R232). -/
def execRts (s : State) : Result := transferInstr opRts 6 s

/-- `BRK`, opcode 00 (R233). -/
def execBrk (s : State) : Result := transferInstr takeTrap 7 s

/-- `RTI`, opcode 40 (R234). -/
def execRti (s : State) : Result := transferInstr returnFromTrap 6 s

end Sys2Proof.Machine
end

