-- ==== Sys2Proof/Machine/FlagNop.lean ====
section
/-! DEFINITION. Meanings of 44_flags_nop.md: the seven flag operations, each on one flag only, and the
no-operations. First what each does, then one meaning per opcode. -/

namespace Sys2Proof.Machine

/-- `CLC` (R300). -/
def opClc (s : State) : State := s.setP { s.p with c := false }

/-- `SEC` (R301). -/
def opSec (s : State) : State := s.setP { s.p with c := true }

/-- `CLI` (R302). -/
def opCli (s : State) : State := s.setP { s.p with i := false }

/-- `SEI` (R303). -/
def opSei (s : State) : State := s.setP { s.p with i := true }

/-- `CLD` (R304). -/
def opCld (s : State) : State := s.setP { s.p with d := false }

/-- `SED` (R305). -/
def opSed (s : State) : State := s.setP { s.p with d := true }

/-- `CLV` (R306). -/
def opClv (s : State) : State := s.setP { s.p with v := false }

/-- `NOP` (R307, R308): nothing. -/
def opNop (s : State) : State := s

/-- An informal `NOP` with a memory operand (R308): the operand is read and discarded only when `NOP_READS_OPERAND`;
the page-cross surcharge applies (30_encoding.md R110). -/
def nopInstr (m : MemOperand) (base : Nat) (s : State) : Result :=
  let e := resolve m s
  let after := if s.cfg.nopReadsOperand then (memRead e.ea e.after).2 else e.after
  .next (advance (memSizeOf m) (base + e.crossed.toNat) after)

/-- `CLC`, opcode 18 (R300). -/
def execClc (s : State) : Result := impliedInstr opClc 2 s

/-- `SEC`, opcode 38 (R301). -/
def execSec (s : State) : Result := impliedInstr opSec 2 s

/-- `CLI`, opcode 58 (R302). -/
def execCli (s : State) : Result := impliedInstr opCli 2 s

/-- `SEI`, opcode 78 (R303). -/
def execSei (s : State) : Result := impliedInstr opSei 2 s

/-- `CLD`, opcode D8 (R304). -/
def execCld (s : State) : Result := impliedInstr opCld 2 s

/-- `SED`, opcode F8 (R305). -/
def execSed (s : State) : Result := impliedInstr opSed 2 s

/-- `CLV`, opcode B8 (R306). -/
def execClv (s : State) : Result := impliedInstr opClv 2 s

/-- `NOP`, opcode EA (R307). -/
def execNop (s : State) : Result := impliedInstr opNop 2 s

/-- `NOP` (informal), opcode 1A (R308). -/
def execNop1A (s : State) : Result := impliedInstr opNop 2 s

/-- `NOP` (informal), opcode 3A (R308). -/
def execNop3A (s : State) : Result := impliedInstr opNop 2 s

/-- `NOP` (informal), opcode 5A (R308). -/
def execNop5A (s : State) : Result := impliedInstr opNop 2 s

/-- `NOP` (informal), opcode 7A (R308). -/
def execNop7A (s : State) : Result := impliedInstr opNop 2 s

/-- `NOP` (informal), opcode DA (R308). -/
def execNopDA (s : State) : Result := impliedInstr opNop 2 s

/-- `NOP` (informal), opcode FA (R308). -/
def execNopFA (s : State) : Result := impliedInstr opNop 2 s

/-- `NOP` Immediate (informal), opcode 80 (R308). -/
def execNop80 (_v : Byte) (s : State) : Result := .next (advance 2 2 s)

/-- `NOP` Immediate (informal), opcode 82 (R308). -/
def execNop82 (_v : Byte) (s : State) : Result := .next (advance 2 2 s)

/-- `NOP` Immediate (informal), opcode 89 (R308). -/
def execNop89 (_v : Byte) (s : State) : Result := .next (advance 2 2 s)

/-- `NOP` Immediate (informal), opcode C2 (R308). -/
def execNopC2 (_v : Byte) (s : State) : Result := .next (advance 2 2 s)

/-- `NOP` Immediate (informal), opcode E2 (R308). -/
def execNopE2 (_v : Byte) (s : State) : Result := .next (advance 2 2 s)

/-- `NOP` ZeroPage (informal), opcode 04 (R308). -/
def execNop04 (z : Byte) (s : State) : Result := nopInstr (.zp z) 3 s

/-- `NOP` ZeroPage (informal), opcode 44 (R308). -/
def execNop44 (z : Byte) (s : State) : Result := nopInstr (.zp z) 3 s

/-- `NOP` ZeroPage (informal), opcode 64 (R308). -/
def execNop64 (z : Byte) (s : State) : Result := nopInstr (.zp z) 3 s

/-- `NOP` ZeroPageX (informal), opcode 14 (R308). -/
def execNop14 (z : Byte) (s : State) : Result := nopInstr (.zpx z) 4 s

/-- `NOP` ZeroPageX (informal), opcode 34 (R308). -/
def execNop34 (z : Byte) (s : State) : Result := nopInstr (.zpx z) 4 s

/-- `NOP` ZeroPageX (informal), opcode 54 (R308). -/
def execNop54 (z : Byte) (s : State) : Result := nopInstr (.zpx z) 4 s

/-- `NOP` ZeroPageX (informal), opcode 74 (R308). -/
def execNop74 (z : Byte) (s : State) : Result := nopInstr (.zpx z) 4 s

/-- `NOP` ZeroPageX (informal), opcode D4 (R308). -/
def execNopD4 (z : Byte) (s : State) : Result := nopInstr (.zpx z) 4 s

/-- `NOP` ZeroPageX (informal), opcode F4 (R308). -/
def execNopF4 (z : Byte) (s : State) : Result := nopInstr (.zpx z) 4 s

/-- `NOP` Absolute (informal), opcode 0C (R308). -/
def execNop0C (w : Word) (s : State) : Result := nopInstr (.abs w) 4 s

/-- `NOP` AbsoluteX (informal), opcode 1C (R308). -/
def execNop1C (w : Word) (s : State) : Result := nopInstr (.abx w) 4 s

/-- `NOP` AbsoluteX (informal), opcode 3C (R308). -/
def execNop3C (w : Word) (s : State) : Result := nopInstr (.abx w) 4 s

/-- `NOP` AbsoluteX (informal), opcode 5C (R308). -/
def execNop5C (w : Word) (s : State) : Result := nopInstr (.abx w) 4 s

/-- `NOP` AbsoluteX (informal), opcode 7C (R308). -/
def execNop7C (w : Word) (s : State) : Result := nopInstr (.abx w) 4 s

/-- `NOP` AbsoluteX (informal), opcode DC (R308). -/
def execNopDC (w : Word) (s : State) : Result := nopInstr (.abx w) 4 s

/-- `NOP` AbsoluteX (informal), opcode FC (R308). -/
def execNopFC (w : Word) (s : State) : Result := nopInstr (.abx w) 4 s

end Sys2Proof.Machine
end

