-- ==== Sys2Proof/Machine/LoadStore.lean ====
section
/-! DEFINITION. Meanings of 43_load_store_transfer_stack.md: loads, stores, transfers and stack operations. First
what each does to registers and flags, then one meaning per opcode. -/

namespace Sys2Proof.Machine

/-- `LDA` (R260). -/
def opLda (m : Byte) (s : State) : State := loadA m s

/-- `LDX` (R261). -/
def opLdx (m : Byte) (s : State) : State := loadX m s

/-- `LDY` (R262). -/
def opLdy (m : Byte) (s : State) : State := loadY m s

/-- `LAX` (R263): both `A` and `X`. -/
def opLax (m : Byte) (s : State) : State := loadX m (s.setA m)

/-- `TAX` (R267). -/
def opTax (s : State) : State := loadX s.a s

/-- `TAY` (R268). -/
def opTay (s : State) : State := loadY s.a s

/-- `TXA` (R269). -/
def opTxa (s : State) : State := loadA s.x s

/-- `TYA` (R270). -/
def opTya (s : State) : State := loadA s.y s

/-- `TSX` (R271). -/
def opTsx (s : State) : State := loadX s.sp s

/-- `TXS` (R272): flags only when `TXS_SETS_NZ`. -/
def opTxs (s : State) : State := (s.setSp s.x).setP (if s.cfg.txsSetsNz then setNZ s.x s.p else s.p)

/-- `PHA` (R273). -/
def opPha (s : State) : State := push s.a s

/-- `PHP` (R274): bit 4 of the pushed byte is set. -/
def opPhp (s : State) : State := push (pushedStatus s.p) s

/-- `PLA` (R275). -/
def opPla (s : State) : State :=
  let b := pop s
  loadA b.1 b.2

/-- `PLP` (R276). -/
def opPlp (s : State) : State :=
  let b := pop s
  b.2.setP (pullStatus b.2.cfg b.1 b.2.p)

/-- `LDA` Immediate, opcode A9 (R260). -/
def execLdaImm (v : Byte) (s : State) : Result := readInstr opLda (.imm v) 2 s

/-- `LDA` ZeroPage, opcode A5 (R260). -/
def execLdaZp (z : Byte) (s : State) : Result := readInstr opLda (.mem (.zp z)) 3 s

/-- `LDA` ZeroPageX, opcode B5 (R260). -/
def execLdaZpx (z : Byte) (s : State) : Result := readInstr opLda (.mem (.zpx z)) 4 s

/-- `LDA` Absolute, opcode AD (R260). -/
def execLdaAbs (w : Word) (s : State) : Result := readInstr opLda (.mem (.abs w)) 4 s

/-- `LDA` AbsoluteX, opcode BD (R260). -/
def execLdaAbx (w : Word) (s : State) : Result := readInstr opLda (.mem (.abx w)) 4 s

/-- `LDA` AbsoluteY, opcode B9 (R260). -/
def execLdaAby (w : Word) (s : State) : Result := readInstr opLda (.mem (.aby w)) 4 s

/-- `LDA` IndirectX, opcode A1 (R260). -/
def execLdaIzx (z : Byte) (s : State) : Result := readInstr opLda (.mem (.izx z)) 6 s

/-- `LDA` IndirectY, opcode B1 (R260). -/
def execLdaIzy (z : Byte) (s : State) : Result := readInstr opLda (.mem (.izy z)) 5 s

/-- `LDX` Immediate, opcode A2 (R261). -/
def execLdxImm (v : Byte) (s : State) : Result := readInstr opLdx (.imm v) 2 s

/-- `LDX` ZeroPage, opcode A6 (R261). -/
def execLdxZp (z : Byte) (s : State) : Result := readInstr opLdx (.mem (.zp z)) 3 s

/-- `LDX` ZeroPageY, opcode B6 (R261). -/
def execLdxZpy (z : Byte) (s : State) : Result := readInstr opLdx (.mem (.zpy z)) 4 s

/-- `LDX` Absolute, opcode AE (R261). -/
def execLdxAbs (w : Word) (s : State) : Result := readInstr opLdx (.mem (.abs w)) 4 s

/-- `LDX` AbsoluteY, opcode BE (R261). -/
def execLdxAby (w : Word) (s : State) : Result := readInstr opLdx (.mem (.aby w)) 4 s

/-- `LDY` Immediate, opcode A0 (R262). -/
def execLdyImm (v : Byte) (s : State) : Result := readInstr opLdy (.imm v) 2 s

/-- `LDY` ZeroPage, opcode A4 (R262). -/
def execLdyZp (z : Byte) (s : State) : Result := readInstr opLdy (.mem (.zp z)) 3 s

/-- `LDY` ZeroPageX, opcode B4 (R262). -/
def execLdyZpx (z : Byte) (s : State) : Result := readInstr opLdy (.mem (.zpx z)) 4 s

/-- `LDY` Absolute, opcode AC (R262). -/
def execLdyAbs (w : Word) (s : State) : Result := readInstr opLdy (.mem (.abs w)) 4 s

/-- `LDY` AbsoluteX, opcode BC (R262). -/
def execLdyAbx (w : Word) (s : State) : Result := readInstr opLdy (.mem (.abx w)) 4 s

/-- `LAX` ZeroPage (informal), opcode A7 (R263). -/
def execLaxZp (z : Byte) (s : State) : Result := readInstr opLax (.mem (.zp z)) 3 s

/-- `LAX` ZeroPageY (informal), opcode B7 (R263). -/
def execLaxZpy (z : Byte) (s : State) : Result := readInstr opLax (.mem (.zpy z)) 4 s

/-- `LAX` Absolute (informal), opcode AF (R263). -/
def execLaxAbs (w : Word) (s : State) : Result := readInstr opLax (.mem (.abs w)) 4 s

/-- `LAX` AbsoluteY (informal), opcode BF (R263). -/
def execLaxAby (w : Word) (s : State) : Result := readInstr opLax (.mem (.aby w)) 4 s

/-- `LAX` IndirectX (informal), opcode A3 (R263). -/
def execLaxIzx (z : Byte) (s : State) : Result := readInstr opLax (.mem (.izx z)) 6 s

/-- `LAX` IndirectY (informal), opcode B3 (R263). -/
def execLaxIzy (z : Byte) (s : State) : Result := readInstr opLax (.mem (.izy z)) 5 s

/-- `STA` ZeroPage, opcode 85 (R264). -/
def execStaZp (z : Byte) (s : State) : Result := storeInstr s.a (.zp z) 3 s

/-- `STA` ZeroPageX, opcode 95 (R264). -/
def execStaZpx (z : Byte) (s : State) : Result := storeInstr s.a (.zpx z) 4 s

/-- `STA` Absolute, opcode 8D (R264). -/
def execStaAbs (w : Word) (s : State) : Result := storeInstr s.a (.abs w) 4 s

/-- `STA` AbsoluteX, opcode 9D (R264). -/
def execStaAbx (w : Word) (s : State) : Result := storeInstr s.a (.abx w) 5 s

/-- `STA` AbsoluteY, opcode 99 (R264). -/
def execStaAby (w : Word) (s : State) : Result := storeInstr s.a (.aby w) 5 s

/-- `STA` IndirectX, opcode 81 (R264). -/
def execStaIzx (z : Byte) (s : State) : Result := storeInstr s.a (.izx z) 6 s

/-- `STA` IndirectY, opcode 91 (R264). -/
def execStaIzy (z : Byte) (s : State) : Result := storeInstr s.a (.izy z) 6 s

/-- `STX` ZeroPage, opcode 86 (R265). -/
def execStxZp (z : Byte) (s : State) : Result := storeInstr s.x (.zp z) 3 s

/-- `STX` ZeroPageY, opcode 96 (R265). -/
def execStxZpy (z : Byte) (s : State) : Result := storeInstr s.x (.zpy z) 4 s

/-- `STX` Absolute, opcode 8E (R265). -/
def execStxAbs (w : Word) (s : State) : Result := storeInstr s.x (.abs w) 4 s

/-- `STY` ZeroPage, opcode 84 (R266). -/
def execStyZp (z : Byte) (s : State) : Result := storeInstr s.y (.zp z) 3 s

/-- `STY` ZeroPageX, opcode 94 (R266). -/
def execStyZpx (z : Byte) (s : State) : Result := storeInstr s.y (.zpx z) 4 s

/-- `STY` Absolute, opcode 8C (R266). -/
def execStyAbs (w : Word) (s : State) : Result := storeInstr s.y (.abs w) 4 s

/-- `TAX`, opcode AA (R267). -/
def execTax (s : State) : Result := impliedInstr opTax 2 s

/-- `TAY`, opcode A8 (R268). -/
def execTay (s : State) : Result := impliedInstr opTay 2 s

/-- `TXA`, opcode 8A (R269). -/
def execTxa (s : State) : Result := impliedInstr opTxa 2 s

/-- `TYA`, opcode 98 (R270). -/
def execTya (s : State) : Result := impliedInstr opTya 2 s

/-- `TSX`, opcode BA (R271). -/
def execTsx (s : State) : Result := impliedInstr opTsx 2 s

/-- `TXS`, opcode 9A (R272). -/
def execTxs (s : State) : Result := impliedInstr opTxs 2 s

/-- `PHA`, opcode 48 (R273). -/
def execPha (s : State) : Result := impliedInstr opPha 3 s

/-- `PHP`, opcode 08 (R274). -/
def execPhp (s : State) : Result := impliedInstr opPhp 3 s

/-- `PLA`, opcode 68 (R275). -/
def execPla (s : State) : Result := impliedInstr opPla 4 s

/-- `PLP`, opcode 28 (R276). -/
def execPlp (s : State) : Result := impliedInstr opPlp 4 s

end Sys2Proof.Machine
end

