-- ==== Sys2Proof/Machine/Shift.lean ====
section
/-! DEFINITION. Meanings of 41_shift_rotate.md (R200-R204): ASL LSR ROL ROR, one per opcode. What each computes is
in Sys2Proof/Machine/Flags.lean. -/

namespace Sys2Proof.Machine

/-- `ASL` Accumulator, opcode 0A (R201). -/
def execAslAcc (s : State) : Result := modifyInstr aluAsl .acc 2 s

/-- `ASL` ZeroPage, opcode 06 (R201). -/
def execAslZp (z : Byte) (s : State) : Result := modifyInstr aluAsl (.mem (.zp z)) 5 s

/-- `ASL` ZeroPageX, opcode 16 (R201). -/
def execAslZpx (z : Byte) (s : State) : Result := modifyInstr aluAsl (.mem (.zpx z)) 6 s

/-- `ASL` Absolute, opcode 0E (R201). -/
def execAslAbs (w : Word) (s : State) : Result := modifyInstr aluAsl (.mem (.abs w)) 6 s

/-- `ASL` AbsoluteX, opcode 1E (R201). -/
def execAslAbx (w : Word) (s : State) : Result := modifyInstr aluAsl (.mem (.abx w)) 7 s

/-- `LSR` Accumulator, opcode 4A (R202). -/
def execLsrAcc (s : State) : Result := modifyInstr aluLsr .acc 2 s

/-- `LSR` ZeroPage, opcode 46 (R202). -/
def execLsrZp (z : Byte) (s : State) : Result := modifyInstr aluLsr (.mem (.zp z)) 5 s

/-- `LSR` ZeroPageX, opcode 56 (R202). -/
def execLsrZpx (z : Byte) (s : State) : Result := modifyInstr aluLsr (.mem (.zpx z)) 6 s

/-- `LSR` Absolute, opcode 4E (R202). -/
def execLsrAbs (w : Word) (s : State) : Result := modifyInstr aluLsr (.mem (.abs w)) 6 s

/-- `LSR` AbsoluteX, opcode 5E (R202). -/
def execLsrAbx (w : Word) (s : State) : Result := modifyInstr aluLsr (.mem (.abx w)) 7 s

/-- `ROL` Accumulator, opcode 2A (R203). -/
def execRolAcc (s : State) : Result := modifyInstr aluRol .acc 2 s

/-- `ROL` ZeroPage, opcode 26 (R203). -/
def execRolZp (z : Byte) (s : State) : Result := modifyInstr aluRol (.mem (.zp z)) 5 s

/-- `ROL` ZeroPageX, opcode 36 (R203). -/
def execRolZpx (z : Byte) (s : State) : Result := modifyInstr aluRol (.mem (.zpx z)) 6 s

/-- `ROL` Absolute, opcode 2E (R203). -/
def execRolAbs (w : Word) (s : State) : Result := modifyInstr aluRol (.mem (.abs w)) 6 s

/-- `ROL` AbsoluteX, opcode 3E (R203). -/
def execRolAbx (w : Word) (s : State) : Result := modifyInstr aluRol (.mem (.abx w)) 7 s

/-- `ROR` Accumulator, opcode 6A (R204). -/
def execRorAcc (s : State) : Result := modifyInstr aluRor .acc 2 s

/-- `ROR` ZeroPage, opcode 66 (R204). -/
def execRorZp (z : Byte) (s : State) : Result := modifyInstr aluRor (.mem (.zp z)) 5 s

/-- `ROR` ZeroPageX, opcode 76 (R204). -/
def execRorZpx (z : Byte) (s : State) : Result := modifyInstr aluRor (.mem (.zpx z)) 6 s

/-- `ROR` Absolute, opcode 6E (R204). -/
def execRorAbs (w : Word) (s : State) : Result := modifyInstr aluRor (.mem (.abs w)) 6 s

/-- `ROR` AbsoluteX, opcode 7E (R204). -/
def execRorAbx (w : Word) (s : State) : Result := modifyInstr aluRor (.mem (.abx w)) 7 s

end Sys2Proof.Machine
end

