-- ==== Sys2Proof/Machine/Fetch.lean ====
section
/-! DEFINITION. Fetching an instruction through the bus, what a refused step reports, and placing one where the next fetch reads it. -/

namespace Sys2Proof.Machine

/-- `n` successive byte reads from an address on, addresses modulo 0x10000 (30_encoding.md R80). -/
def readBytes (n : Nat) (a : Word) (s : State) : List Byte × State :=
  match n with
  | 0 => ([], s)
  | k + 1 =>
    let b := memRead a s
    let rest := readBytes k (a + 1) b.2
    (b.1 :: rest.1, rest.2)

/-- What a fetch finds. -/
inductive Fetch where
  /-- an instruction, its bytes, and the state after the byte reads -/
  | instruction (i : Instr) (bytes : List Byte) (after : State)
  /-- an opcode byte without a descriptor, and the state after its read -/
  | illegal (op : Byte) (after : State)

/-- The instruction fetch of 30_encoding.md R107: the opcode at `PC`, then exactly as many operand bytes as its size
requires (R112), each read through the bus. -/
def fetch (s : State) : Fetch :=
  let op := memRead s.pc s
  match decodeOpcode s.cfg op.1 with
  | none => .illegal op.1 op.2
  | some (.one i) => .instruction i [op.1] op.2
  | some (.two f) =>
    let b1 := memRead (s.pc + 1) op.2
    .instruction (f b1.1) [op.1, b1.1] b1.2
  | some (.three f) =>
    let b1 := memRead (s.pc + 1) op.2
    let b2 := memRead (s.pc + 2) b1.2
    .instruction (f (wordOf b1.1 b2.1)) [op.1, b1.1, b2.1] b2.2

/-- The failure of a step asked for before `PC` is seeded: it carries `pc0` and the opcode byte (70_reset_and_hazards.md
R352, R362, D34). `PC` is undefined there: `pc0` is whatever `PC` holds, and the byte is the one that an opcode read there
would give. No read takes place, so the device sees none (DESIGN CHOICE, log 18). -/
def refuseUnseeded (s : State) : Refusal := .pcNotSeeded s.pc (memRead s.pc s).1

/-- Where an instruction is placed for the next fetch: at `PC`, or at 0xC000 when one of the three bytes from `PC` on
is in the device window, where a fetch does not read the array (log 13). -/
def fetchPlace (s : State) : Word :=
  if inWindow s.pc || inWindow (s.pc + 1) || inWindow (s.pc + 2) then 0xC000 else s.pc

/-- The state with three bytes placed for the next fetch, and ready to fetch: `PC` at them and seeded, `FAULT` clear
(log 13). -/
def placeInstruction (bytes : List Byte) (s : State) : State :=
  let a := fetchPlace s
  { s with mem := s.mem.load a bytes, pc := a, pcSeeded := true, fault := none }

end Sys2Proof.Machine
end

