-- ==== Sys2Proof/Machine/Step.lean ====
section
/-! DEFINITION. One step of the machine (30_encoding.md R107, 00_scope.md R14). -/

namespace Sys2Proof.Machine

/-- One step: none while `FAULT` is latched (60_exceptions.md R323) or before `PC` is seeded (70_reset_and_hazards.md
R352, R362); else the instruction at `PC` is fetched and executed, or the decode error is raised (60_exceptions.md R321). -/
def step (s : State) : Host.Outcome State Fault Refusal :=
  match s.fault with
  | some e => .fault (.stopped e)
  | none =>
    if s.pcSeeded then
      match fetch s with
      | .instruction i _ after => exec i after
      | .illegal op _ => .fault (.decodeError ⟨s.pc, op⟩)
    else .refused (refuseUnseeded s)

/-- The state with the instruction whose bits are `w` placed where the next step fetches it; bits from `nbits` on are
0. It stands for the host's load of a program (log 6). -/
def State.withFetchWord (s : State) (nbits w : Nat) : State := placeInstruction (threeBytes (w % 2 ^ nbits)) s

end Sys2Proof.Machine
end

