-- ==== Sys2Proof/Machine/Trace.lean ====
section
/-! DEFINITION. The conformance trace (70_reset_and_hazards.md R362, R363; operand forms 30_encoding.md R114): the
fields of the line for the instruction about to execute, and the line they make at given columns. Text is a list of
characters. -/

namespace Sys2Proof.Machine

/-- One uppercase hexadecimal digit. -/
def hexDigit (n : Nat) : Char :=
  ['0', '1', '2', '3', '4', '5', '6', '7', '8', '9', 'A', 'B', 'C', 'D', 'E', 'F'].getD n '?'

/-- A byte in two uppercase hex digits. -/
def hexByte (b : Byte) : List Char := [hexDigit (b.toNat / 16), hexDigit (b.toNat % 16)]

/-- A word in four uppercase hex digits. -/
def hexWord (w : Word) : List Char := hexByte (highByte w) ++ hexByte (lowByte w)

/-- A mnemonic as text, upper case (30_encoding.md R114). -/
def mnemonicText : Operation → List Char
  | .ADC => ['A', 'D', 'C']
  | .SBC => ['S', 'B', 'C']
  | .AND => ['A', 'N', 'D']
  | .ORA => ['O', 'R', 'A']
  | .EOR => ['E', 'O', 'R']
  | .BIT => ['B', 'I', 'T']
  | .CMP => ['C', 'M', 'P']
  | .CPX => ['C', 'P', 'X']
  | .CPY => ['C', 'P', 'Y']
  | .INC => ['I', 'N', 'C']
  | .DEC => ['D', 'E', 'C']
  | .INX => ['I', 'N', 'X']
  | .INY => ['I', 'N', 'Y']
  | .DEX => ['D', 'E', 'X']
  | .DEY => ['D', 'E', 'Y']
  | .ASL => ['A', 'S', 'L']
  | .LSR => ['L', 'S', 'R']
  | .ROL => ['R', 'O', 'L']
  | .ROR => ['R', 'O', 'R']
  | .BCC => ['B', 'C', 'C']
  | .BCS => ['B', 'C', 'S']
  | .BEQ => ['B', 'E', 'Q']
  | .BMI => ['B', 'M', 'I']
  | .BNE => ['B', 'N', 'E']
  | .BPL => ['B', 'P', 'L']
  | .BVC => ['B', 'V', 'C']
  | .BVS => ['B', 'V', 'S']
  | .JMP => ['J', 'M', 'P']
  | .JSR => ['J', 'S', 'R']
  | .RTS => ['R', 'T', 'S']
  | .BRK => ['B', 'R', 'K']
  | .RTI => ['R', 'T', 'I']
  | .LDA => ['L', 'D', 'A']
  | .LDX => ['L', 'D', 'X']
  | .LDY => ['L', 'D', 'Y']
  | .LAX => ['L', 'A', 'X']
  | .STA => ['S', 'T', 'A']
  | .STX => ['S', 'T', 'X']
  | .STY => ['S', 'T', 'Y']
  | .TAX => ['T', 'A', 'X']
  | .TAY => ['T', 'A', 'Y']
  | .TXA => ['T', 'X', 'A']
  | .TYA => ['T', 'Y', 'A']
  | .TSX => ['T', 'S', 'X']
  | .TXS => ['T', 'X', 'S']
  | .PHA => ['P', 'H', 'A']
  | .PHP => ['P', 'H', 'P']
  | .PLA => ['P', 'L', 'A']
  | .PLP => ['P', 'L', 'P']
  | .CLC => ['C', 'L', 'C']
  | .SEC => ['S', 'E', 'C']
  | .CLI => ['C', 'L', 'I']
  | .SEI => ['S', 'E', 'I']
  | .CLD => ['C', 'L', 'D']
  | .SED => ['S', 'E', 'D']
  | .CLV => ['C', 'L', 'V']
  | .NOP => ['N', 'O', 'P']

/-- A memory operand as text (30_encoding.md R114). -/
def memOperandText : MemOperand → List Char
  | .zp z => '$' :: hexByte z
  | .zpx z => '$' :: hexByte z ++ [',', 'X']
  | .zpy z => '$' :: hexByte z ++ [',', 'Y']
  | .abs w => '$' :: hexWord w
  | .abx w => '$' :: hexWord w ++ [',', 'X']
  | .aby w => '$' :: hexWord w ++ [',', 'Y']
  | .izx z => ['(', '$'] ++ hexByte z ++ [',', 'X', ')']
  | .izy z => ['(', '$'] ++ hexByte z ++ [')', ',', 'Y']

/-- An operand as text; a branch shows its target address (30_encoding.md R114). -/
def operandText (o : Operand) (s : State) : List Char :=
  match o with
  | .imp => []
  | .acc => ['A']
  | .imm v => ['#', '$'] ++ hexByte v
  | .mem m => memOperandText m
  | .rel off => '$' :: hexWord (branchTarget off s)
  | .jabs w => '$' :: hexWord w
  | .jind w => ['(', '$'] ++ hexWord w ++ [')']

/-- The factor of `TRACE_DOTS_PER_CYCLE` (R363). -/
def dotsFactor : DotsPerCycle → Nat
  | .one => 1
  | .three => 3

/-- The `CYC:` field: the counter projected modulo the scanline length 341 (R363). -/
def cycField (s : State) : Nat := (dotsFactor s.cfg.traceDotsPerCycle * s.cyc) % 341

/-- The fields of a trace line: the instruction, and the registers before it executes (R362). -/
structure TraceLine where
  pc : Word
  bytes : List Byte
  operation : List Char
  operand : List Char
  a : Byte
  x : Byte
  y : Byte
  /-- the packed status byte -/
  p : Byte
  sp : Byte
  cyc : Nat
  deriving DecidableEq, Repr

/-- Whether an opcode byte is informal (30_encoding.md R86). -/
def isInformal (i : Instr) : Bool := informalBytes.contains i.row.opcode

/-- The operation as the trace prints it: informal opcodes behind `TRACE_INFORMAL_PREFIX` (R362, D30). -/
def operationText (c : Config) (i : Instr) : List Char :=
  (if isInformal i then c.traceInformalPrefix else []) ++ mnemonicText i.row.operation

/-- The trace line of the step about to be taken: none where the step is refused, stopped or raises the decode error
(R362, D34). -/
def traceLine (s : State) : Option TraceLine :=
  match s.fault with
  | some _ => none
  | none =>
    if s.pcSeeded then
      match fetch s with
      | .instruction i bytes _ =>
        some ⟨s.pc, bytes, operationText s.cfg i, operandText i.row.operand s, s.a, s.x, s.y, getStatus s.p, s.sp,
          cycField s⟩
      | .illegal _ _ => none
    else none

/-- The instruction's bytes in hex, a space between two (log 9). -/
def bytesText : List Byte → List Char
  | [] => []
  | [b] => hexByte b
  | b :: bs => hexByte b ++ ' ' :: bytesText bs

/-- The register dump `A:xx X:xx Y:xx P:xx SP:xx CYC:n` (R362). -/
def registersText (l : TraceLine) : List Char :=
  ['A', ':'] ++ hexByte l.a ++ [' ', 'X', ':'] ++ hexByte l.x ++ [' ', 'Y', ':'] ++ hexByte l.y ++
    [' ', 'P', ':'] ++ hexByte l.p ++ [' ', 'S', 'P', ':'] ++ hexByte l.sp ++ [' ', 'C', 'Y', 'C', ':'] ++
    Nat.toDigits 10 l.cyc

/-- The text of one field of the line (R362). -/
def fieldText (l : TraceLine) : TraceField → List Char
  | .pc => hexWord l.pc
  | .bytes => bytesText l.bytes
  | .operation => l.operation
  | .operand => l.operand
  | .registers => registersText l

/-- A field written from a column on, after the text so far (log 9). -/
def putField (column : Nat) (field line : List Char) : List Char :=
  line ++ List.replicate (column - line.length) ' ' ++ field

/-- The line with its fields at the given columns (R362). -/
def renderAt (columns : TraceField → Nat) (l : TraceLine) : List Char :=
  [TraceField.pc, .bytes, .operation, .operand, .registers].foldl
    (fun line f => putField (columns f) (fieldText l f) line) []

/-- The line as this hardware prints it, at the open columns `TRACE_COLUMNS` (R362, D31). -/
def renderLine (l : TraceLine) : List Char := renderAt Config.traceColumns l

end Sys2Proof.Machine
end

