-- ==== Sys2Proof/Machine/HostInterface.lean ====
section
/-! DEFINITION. What the host does to the machine (70_reset_and_hazards.md R366): construct, load a program image or a
cartridge (R351, R353, R354, R356), reset (R350), ask for a step and see the latched fault (60_exceptions.md R321,
R323), and a run with its trace and its end (R365). None of it is a step of the core. -/

namespace Sys2Proof.Machine

/-- Step (3) of the reset sequence: every register, flag, `CYC` and `FAULT` (R350; 10_state.md R37), `PC` not yet
seeded. Memory, device history and configuration stay (D35, log 12). -/
def resetRegisters (s : State) : State :=
  { s with
    a := 0x00, x := 0x00, y := 0x00, sp := s.cfg.resetSp, p := Flags.reset,
    cyc := cycleValue s.cfg s.cfg.resetCycles, fault := none, pcSeeded := false }

/-- Step (4) of the reset sequence: `PC` from the reset vector, or from the host (R350, D20). -/
def seedPc (s : State) : State :=
  match s.cfg.entryPc with
  | .vector => { s with pc := s.mem.readWord 0xFFFC, pcSeeded := true }
  | .address t => { s with pc := t, pcSeeded := true }

/-- A reset: steps (3) and (4); memory keeps the content it has (R350, D35). -/
def resetMachine (s : State) : State := seedPc (resetRegisters s)

/-- Construction: memory holds `INIT_MEM`, `PC` is not seeded (R350 step 1, R352). `PC` is undefined until it is: its
value is an argument, so a statement about every value of it assumes nothing of it (log 7). -/
def construct (c : Config) (initMem : Memory) (undefinedPc : Word) : State :=
  resetRegisters { State.reset with cfg := c, mem := initMem, ppuLog := [], pc := undefinedPc }

/-- `loadROM(prgBytes, atAddress)`: bytes copied into the array, not through the window, at no cost (R351). -/
def loadRom (prg : List Byte) (atAddress : Word) (s : State) : State := { s with mem := s.mem.load atAddress prg }

/-- Why a cartridge image is rejected, with the offending address and byte (R353, R354, R356). -/
inductive LoadError where
  /-- a header byte is not that of the magic: its offset and the byte found -/
  | badMagic (offset : Nat) (byte : Byte)
  /-- a PRG bank count other than 1 or 2: header byte 4 -/
  | badBankCount (count : Byte)
  /-- the file ends early: its length -/
  | truncated (length : Nat)
  deriving DecidableEq, Repr

/-- The header bytes a cartridge begins with: `NES` and 0x1A (R353). -/
def cartridgeMagic : List Byte := [0x4E, 0x45, 0x53, 0x1A]

/-- The first byte that differs from the expected ones: its offset and value. -/
def firstMismatch : List Byte → List Byte → Nat → Option (Nat × Byte)
  | e :: expected, f :: found, n => if e = f then firstMismatch expected found (n + 1) else some (n, f)
  | _, _, _ => none

/-- The PRG data of a cartridge file and the address it is loaded at (R353, R354), or the load error (R356). -/
def cartridgePrg (file : List Byte) : Except LoadError (List Byte × Word) :=
  match firstMismatch cartridgeMagic file 0 with
  | some (n, b) => .error (.badMagic n b)
  | none =>
    if file.length < 16 then .error (.truncated file.length)
    else
      let banks := file.getD 4 0
      if banks = 1 ∨ banks = 2 then
        let prg := (file.drop 16).take (0x4000 * banks.toNat)
        if prg.length < 0x4000 * banks.toNat then .error (.truncated file.length)
        else .ok (prg, if banks = 1 then 0xC000 else 0x8000)
      else .error (.badBankCount banks)

/-- Loading a cartridge: the state with the PRG data in memory, or the load error and no state changed (R354, R356). -/
def loadCartridge (file : List Byte) (s : State) : Except LoadError State :=
  match cartridgePrg file with
  | .error e => .error e
  | .ok (prg, atAddress) => .ok (loadRom prg atAddress s)

/-- The state the host observes after asking for one step. After the decode error it is the state before the step with
`FAULT` latched, and the device has seen the opcode's read if it was in the window (60_exceptions.md R321, R322); a
stopped or refused step changes nothing (R323, R352). -/
def stepLatched (s : State) : State :=
  match step s with
  | .next t => t
  | .fault (.decodeError e) => (memRead s.pc s).2.setFault (some e)
  | .fault (.stopped _) => s
  | .refused _ => s

/-- How a run ends (R365). -/
inductive RunEnd where
  /-- the host took the number of steps it asked for, and no fault is latched: the normal end -/
  | completed
  /-- a step raised the decode error, or `FAULT` held one already -/
  | faulted (r : Fault)
  /-- a step was refused -/
  | refused (r : Refusal)
  deriving DecidableEq, Repr

/-- What a run shows: the trace lines of the steps taken, the state after the last of them, and how it ended (R365). -/
structure RunResult where
  trace : List TraceLine
  final : State
  ending : RunEnd
  deriving DecidableEq, Repr

/-- How a run ends when no step is left to take (R365). R365 defines runs from the reset state only. DESIGN CHOICE
(log 19): asked of a state whose `FAULT` is latched, a run of zero steps ends as faulted, since a faulted state is not a
normal end (60_exceptions.md R323, 93_implementation_defined.md U2); of any other state it ends normally, `PC` seeded or
not, since no step of it is refused. -/
def endWithoutStep (s : State) : RunEnd :=
  match s.fault with
  | some e => .faulted (.stopped e)
  | none => .completed

/-- A run of at most `n` steps (R365) from any state, not only the reset state (log 19). -/
def runTraced (n : Nat) (s : State) : RunResult :=
  match n with
  | 0 => ⟨[], s, endWithoutStep s⟩
  | k + 1 =>
    match step s with
    | .next t =>
      let rest := runTraced k t
      { rest with trace := (traceLine s).toList ++ rest.trace }
    | .fault r => ⟨[], stepLatched s, .faulted r⟩
    | .refused r => ⟨[], s, .refused r⟩

end Sys2Proof.Machine
end

