-- ==== Sys2Proof/Safety.lean ====
section
/-! DEFINITION. The invariant every step keeps, and what counts as a safe run, in the terms the statements use. -/

namespace Sys2Proof.Machine

/-- The invariant of the machine's state. -/
structure Inv (s : State) : Prop where
  /-- the memory array is in canonical form -/
  memory_canonical : s.mem.wf = true
  /-- the device has seen window accesses only (20_memory.md R61) -/
  history_in_window : ∀ e ∈ s.ppuLog, inWindow (ppuEventAddress e) = true
  /-- a bounded cycle counter is below its bound (10_state.md R34) -/
  cycles_in_range : ∀ w, s.cfg.cycleCounterWidth = some w → s.cyc < 2 ^ w
  /-- a latched fault names an opcode without a descriptor (60_exceptions.md R321) -/
  fault_is_illegal : ∀ e, s.fault = some e → (decodeOpcode s.cfg e.opcode).isNone = true

/-- The core is ready to take a step: no latched fault, `PC` seeded (30_encoding.md R107). -/
abbrev State.Ready (s : State) : Prop := s.fault = none ∧ s.pcSeeded = true

/-- The step from a state completes an instruction: the core is ready and the opcode byte it fetches has a
descriptor. -/
abbrev State.Safe (s : State) : Prop := s.Ready ∧ (decodeOpcode s.cfg (memRead s.pc s).1).isSome = true

/-- A run of `n` steps ends normally (70_reset_and_hazards.md R365): never in a state with a latched fault (log 19). -/
abbrev RunsSafely (n : Nat) (s : State) : Prop := (runTraced n s).ending = .completed

end Sys2Proof.Machine
end

