-- ==== Sys2Proof/WellFormed.lean ====
section
/-! DEFINITION. Which configurations and which instructions are well formed. Operand widths are in the types of
`Instr`; what is left to check is membership of the informal set. -/

namespace Sys2Proof

/-- An informal opcode exists only while its byte is in `INFORMAL_OPCODES` (30_encoding.md R86). -/
abbrev Instr.WellFormed (c : Config) (i : Instr) : Prop := opcodeEnabled c i.row.opcode = true

/-- `INFORMAL_OPCODES` names informal opcodes only: the spec gives no row for any other byte (30_encoding.md R85,
R86). -/
abbrev Config.WellFormed (c : Config) : Prop := ∀ op ∈ c.informalOpcodes, op ∈ Machine.informalBytes

end Sys2Proof
end

