-- ==== Sys2Proof/Certificates/Slice0/Obligations.lean ====
section
/-! DEFINITION. The statements for the provers. Before them, the forms of each instruction as its rule lists them
(opcode byte, base cycles, operand) and the shapes the statements share. -/

open Sys2Proof Sys2Proof.Machine

namespace Sys2Proof.Stated

/-- A form of an instruction that only reads its operand: its opcode byte, base cycles, operand and constructor. -/
structure ReadForm where
  opcode : Byte
  cycles : Nat
  source : Source
  instr : Instr

/-- A form of an instruction that changes `A` or a memory byte. -/
structure ModifyForm where
  opcode : Byte
  cycles : Nat
  place : Place
  instr : Instr

/-- A form of an instruction that stores a byte. -/
structure StoreForm where
  opcode : Byte
  cycles : Nat
  target : MemOperand
  instr : Instr

/-- A form without an operand. -/
structure PlainForm where
  opcode : Byte
  cycles : Nat
  instr : Instr

/-- The operand bytes of a read operand. -/
def sourceBytes : Source → List Byte
  | .imm v => [v]
  | .mem m => m.bytes

/-- The operand bytes of a place. -/
def placeBytes : Place → List Byte
  | .acc => []
  | .mem m => m.bytes

/-- `PC` past the bytes of an instruction (30_encoding.md R108). -/
def pcPast (i : Instr) (s : State) : Word := s.pc + BitVec.ofNat 16 (encode i).length

/-- `CYC` after a cost (10_state.md R34). -/
def cycAfter (s : State) (cost : Nat) : Nat := cycleValue s.cfg (s.cyc + cost)

/-- Every form reads its operand and answers a next state: the given effect, `PC` past the instruction, the base cost
and the page-cross surcharge, and the device history of the reads. Everything else is as before, all of memory too. -/
def Reads (forms : Byte → Word → List ReadForm) (effect : State → Byte → State) : Prop :=
  ∀ (s : State) (b : Byte) (w : Word), ∀ f ∈ forms b w,
    encode f.instr = f.opcode :: sourceBytes f.source ∧
    exec f.instr s = .next
      { effect s (readOperand f.source s).value with
        pc := pcPast f.instr s
        cyc := cycAfter s (f.cycles + (readOperand f.source s).crossed.toNat)
        ppuLog := (readOperand f.source s).after.ppuLog }

/-- Every form reads its place once, writes the result of `alu` there once and sets the flags; no surcharge. In memory
form the write is `memWrite` at the resolved address, after the read. -/
def Modifies (forms : Byte → Word → List ModifyForm) (alu : Byte → Flags → Byte × Flags) : Prop :=
  ∀ (s : State) (b : Byte) (w : Word), ∀ f ∈ forms b w,
    encode f.instr = f.opcode :: placeBytes f.place ∧
    match f.place with
    | .acc =>
      exec f.instr s = .next
        { s with a := (alu s.a s.p).1, p := (alu s.a s.p).2, pc := pcPast f.instr s, cyc := cycAfter s f.cycles }
    | .mem m =>
      exec f.instr s = .next
        { memWrite (resolve m s).ea (alu (memRead (resolve m s).ea (resolve m s).after).1 s.p).1
            (memRead (resolve m s).ea (resolve m s).after).2 with
          p := (alu (memRead (resolve m s).ea (resolve m s).after).1 s.p).2
          pc := pcPast f.instr s
          cyc := cycAfter s f.cycles }

/-- Every form stores one byte at its resolved address, without reading there; no flag, no surcharge. -/
def Stores (forms : Byte → Word → List StoreForm) (value : State → Byte) : Prop :=
  ∀ (s : State) (b : Byte) (w : Word), ∀ f ∈ forms b w,
    encode f.instr = f.opcode :: f.target.bytes ∧
    exec f.instr s = .next
      { memWrite (resolve f.target s).ea (value s) (resolve f.target s).after with
        pc := pcPast f.instr s
        cyc := cycAfter s f.cycles }

/-- The form has the given effect, `PC` past the instruction, and its cost; no bus access beyond its fetch and what
the effect says. -/
def Plain (f : PlainForm) (effect : State → State) : Prop :=
  ∀ s : State, encode f.instr = [f.opcode] ∧
    exec f.instr s = .next { effect s with pc := pcPast f.instr s, cyc := cycAfter s f.cycles }

/-- The flags with `N` and `Z` of a byte (40_arithmetic_logic.md R140). -/
def nzOf (v : Byte) (p : Flags) : Flags := { p with n := v[7], z := decide (v = 0) }

/-- The flags of a comparison (40_arithmetic_logic.md R151-R153). -/
def comparedFlags (r m : Byte) (p : Flags) : Flags :=
  { p with c := decide (m.toNat ≤ r.toNat), n := (r - m)[7], z := decide (r - m = 0) }

/-- The forms of `ADC` (R145). -/
def adcForms (b : Byte) (w : Word) : List ReadForm :=
  [⟨0x69, 2, .imm b, .adcImm b⟩, ⟨0x65, 3, .mem (.zp b), .adcZp b⟩, ⟨0x75, 4, .mem (.zpx b), .adcZpx b⟩,
    ⟨0x6D, 4, .mem (.abs w), .adcAbs w⟩, ⟨0x7D, 4, .mem (.abx w), .adcAbx w⟩,
    ⟨0x79, 4, .mem (.aby w), .adcAby w⟩, ⟨0x61, 6, .mem (.izx b), .adcIzx b⟩,
    ⟨0x71, 5, .mem (.izy b), .adcIzy b⟩]

/-- The forms of `SBC` (R146). -/
def sbcForms (b : Byte) (w : Word) : List ReadForm :=
  [⟨0xE9, 2, .imm b, .sbcImm b⟩, ⟨0xE5, 3, .mem (.zp b), .sbcZp b⟩, ⟨0xF5, 4, .mem (.zpx b), .sbcZpx b⟩,
    ⟨0xED, 4, .mem (.abs w), .sbcAbs w⟩, ⟨0xFD, 4, .mem (.abx w), .sbcAbx w⟩,
    ⟨0xF9, 4, .mem (.aby w), .sbcAby w⟩, ⟨0xE1, 6, .mem (.izx b), .sbcIzx b⟩,
    ⟨0xF1, 5, .mem (.izy b), .sbcIzy b⟩]

/-- The forms of `AND` (R147). -/
def andForms (b : Byte) (w : Word) : List ReadForm :=
  [⟨0x29, 2, .imm b, .andImm b⟩, ⟨0x25, 3, .mem (.zp b), .andZp b⟩, ⟨0x35, 4, .mem (.zpx b), .andZpx b⟩,
    ⟨0x2D, 4, .mem (.abs w), .andAbs w⟩, ⟨0x3D, 4, .mem (.abx w), .andAbx w⟩,
    ⟨0x39, 4, .mem (.aby w), .andAby w⟩, ⟨0x21, 6, .mem (.izx b), .andIzx b⟩,
    ⟨0x31, 5, .mem (.izy b), .andIzy b⟩]

/-- The forms of `ORA` (R148). -/
def oraForms (b : Byte) (w : Word) : List ReadForm :=
  [⟨0x09, 2, .imm b, .oraImm b⟩, ⟨0x05, 3, .mem (.zp b), .oraZp b⟩, ⟨0x15, 4, .mem (.zpx b), .oraZpx b⟩,
    ⟨0x0D, 4, .mem (.abs w), .oraAbs w⟩, ⟨0x1D, 4, .mem (.abx w), .oraAbx w⟩,
    ⟨0x19, 4, .mem (.aby w), .oraAby w⟩, ⟨0x01, 6, .mem (.izx b), .oraIzx b⟩,
    ⟨0x11, 5, .mem (.izy b), .oraIzy b⟩]

/-- The forms of `EOR` (R149). -/
def eorForms (b : Byte) (w : Word) : List ReadForm :=
  [⟨0x49, 2, .imm b, .eorImm b⟩, ⟨0x45, 3, .mem (.zp b), .eorZp b⟩, ⟨0x55, 4, .mem (.zpx b), .eorZpx b⟩,
    ⟨0x4D, 4, .mem (.abs w), .eorAbs w⟩, ⟨0x5D, 4, .mem (.abx w), .eorAbx w⟩,
    ⟨0x59, 4, .mem (.aby w), .eorAby w⟩, ⟨0x41, 6, .mem (.izx b), .eorIzx b⟩,
    ⟨0x51, 5, .mem (.izy b), .eorIzy b⟩]

/-- The forms of `BIT` (R150). -/
def bitForms (b : Byte) (w : Word) : List ReadForm :=
  [⟨0x24, 3, .mem (.zp b), .bitZp b⟩, ⟨0x2C, 4, .mem (.abs w), .bitAbs w⟩]

/-- The forms of `CMP` (R151). -/
def cmpForms (b : Byte) (w : Word) : List ReadForm :=
  [⟨0xC9, 2, .imm b, .cmpImm b⟩, ⟨0xC5, 3, .mem (.zp b), .cmpZp b⟩, ⟨0xD5, 4, .mem (.zpx b), .cmpZpx b⟩,
    ⟨0xCD, 4, .mem (.abs w), .cmpAbs w⟩, ⟨0xDD, 4, .mem (.abx w), .cmpAbx w⟩,
    ⟨0xD9, 4, .mem (.aby w), .cmpAby w⟩, ⟨0xC1, 6, .mem (.izx b), .cmpIzx b⟩,
    ⟨0xD1, 5, .mem (.izy b), .cmpIzy b⟩]

/-- The forms of `CPX` (R152). -/
def cpxForms (b : Byte) (w : Word) : List ReadForm :=
  [⟨0xE0, 2, .imm b, .cpxImm b⟩, ⟨0xE4, 3, .mem (.zp b), .cpxZp b⟩, ⟨0xEC, 4, .mem (.abs w), .cpxAbs w⟩]

/-- The forms of `CPY` (R153). -/
def cpyForms (b : Byte) (w : Word) : List ReadForm :=
  [⟨0xC0, 2, .imm b, .cpyImm b⟩, ⟨0xC4, 3, .mem (.zp b), .cpyZp b⟩, ⟨0xCC, 4, .mem (.abs w), .cpyAbs w⟩]

/-- The forms of `INC` (R154). -/
def incForms (b : Byte) (w : Word) : List ModifyForm :=
  [⟨0xE6, 5, .mem (.zp b), .incZp b⟩, ⟨0xF6, 6, .mem (.zpx b), .incZpx b⟩, ⟨0xEE, 6, .mem (.abs w), .incAbs w⟩,
    ⟨0xFE, 7, .mem (.abx w), .incAbx w⟩]

/-- The forms of `DEC` (R155). -/
def decForms (b : Byte) (w : Word) : List ModifyForm :=
  [⟨0xC6, 5, .mem (.zp b), .decZp b⟩, ⟨0xD6, 6, .mem (.zpx b), .decZpx b⟩, ⟨0xCE, 6, .mem (.abs w), .decAbs w⟩,
    ⟨0xDE, 7, .mem (.abx w), .decAbx w⟩]

/-- The forms of `ASL` (R201). -/
def aslForms (b : Byte) (w : Word) : List ModifyForm :=
  [⟨0x0A, 2, .acc, .aslAcc⟩, ⟨0x06, 5, .mem (.zp b), .aslZp b⟩, ⟨0x16, 6, .mem (.zpx b), .aslZpx b⟩,
    ⟨0x0E, 6, .mem (.abs w), .aslAbs w⟩, ⟨0x1E, 7, .mem (.abx w), .aslAbx w⟩]

/-- The forms of `LSR` (R202). -/
def lsrForms (b : Byte) (w : Word) : List ModifyForm :=
  [⟨0x4A, 2, .acc, .lsrAcc⟩, ⟨0x46, 5, .mem (.zp b), .lsrZp b⟩, ⟨0x56, 6, .mem (.zpx b), .lsrZpx b⟩,
    ⟨0x4E, 6, .mem (.abs w), .lsrAbs w⟩, ⟨0x5E, 7, .mem (.abx w), .lsrAbx w⟩]

/-- The forms of `ROL` (R203). -/
def rolForms (b : Byte) (w : Word) : List ModifyForm :=
  [⟨0x2A, 2, .acc, .rolAcc⟩, ⟨0x26, 5, .mem (.zp b), .rolZp b⟩, ⟨0x36, 6, .mem (.zpx b), .rolZpx b⟩,
    ⟨0x2E, 6, .mem (.abs w), .rolAbs w⟩, ⟨0x3E, 7, .mem (.abx w), .rolAbx w⟩]

/-- The forms of `ROR` (R204). -/
def rorForms (b : Byte) (w : Word) : List ModifyForm :=
  [⟨0x6A, 2, .acc, .rorAcc⟩, ⟨0x66, 5, .mem (.zp b), .rorZp b⟩, ⟨0x76, 6, .mem (.zpx b), .rorZpx b⟩,
    ⟨0x6E, 6, .mem (.abs w), .rorAbs w⟩, ⟨0x7E, 7, .mem (.abx w), .rorAbx w⟩]

/-- The forms of `LDA` (R260). -/
def ldaForms (b : Byte) (w : Word) : List ReadForm :=
  [⟨0xA9, 2, .imm b, .ldaImm b⟩, ⟨0xA5, 3, .mem (.zp b), .ldaZp b⟩, ⟨0xB5, 4, .mem (.zpx b), .ldaZpx b⟩,
    ⟨0xAD, 4, .mem (.abs w), .ldaAbs w⟩, ⟨0xBD, 4, .mem (.abx w), .ldaAbx w⟩,
    ⟨0xB9, 4, .mem (.aby w), .ldaAby w⟩, ⟨0xA1, 6, .mem (.izx b), .ldaIzx b⟩,
    ⟨0xB1, 5, .mem (.izy b), .ldaIzy b⟩]

/-- The forms of `LDX` (R261). -/
def ldxForms (b : Byte) (w : Word) : List ReadForm :=
  [⟨0xA2, 2, .imm b, .ldxImm b⟩, ⟨0xA6, 3, .mem (.zp b), .ldxZp b⟩, ⟨0xB6, 4, .mem (.zpy b), .ldxZpy b⟩,
    ⟨0xAE, 4, .mem (.abs w), .ldxAbs w⟩, ⟨0xBE, 4, .mem (.aby w), .ldxAby w⟩]

/-- The forms of `LDY` (R262). -/
def ldyForms (b : Byte) (w : Word) : List ReadForm :=
  [⟨0xA0, 2, .imm b, .ldyImm b⟩, ⟨0xA4, 3, .mem (.zp b), .ldyZp b⟩, ⟨0xB4, 4, .mem (.zpx b), .ldyZpx b⟩,
    ⟨0xAC, 4, .mem (.abs w), .ldyAbs w⟩, ⟨0xBC, 4, .mem (.abx w), .ldyAbx w⟩]

/-- The forms of `LAX` (R263). -/
def laxForms (b : Byte) (w : Word) : List ReadForm :=
  [⟨0xA7, 3, .mem (.zp b), .laxZp b⟩, ⟨0xB7, 4, .mem (.zpy b), .laxZpy b⟩, ⟨0xAF, 4, .mem (.abs w), .laxAbs w⟩,
    ⟨0xBF, 4, .mem (.aby w), .laxAby w⟩, ⟨0xA3, 6, .mem (.izx b), .laxIzx b⟩,
    ⟨0xB3, 5, .mem (.izy b), .laxIzy b⟩]

/-- The forms of `STA` (R264). -/
def staForms (b : Byte) (w : Word) : List StoreForm :=
  [⟨0x85, 3, .zp b, .staZp b⟩, ⟨0x95, 4, .zpx b, .staZpx b⟩, ⟨0x8D, 4, .abs w, .staAbs w⟩,
    ⟨0x9D, 5, .abx w, .staAbx w⟩, ⟨0x99, 5, .aby w, .staAby w⟩, ⟨0x81, 6, .izx b, .staIzx b⟩,
    ⟨0x91, 6, .izy b, .staIzy b⟩]

/-- The forms of `STX` (R265). -/
def stxForms (b : Byte) (w : Word) : List StoreForm :=
  [⟨0x86, 3, .zp b, .stxZp b⟩, ⟨0x96, 4, .zpy b, .stxZpy b⟩, ⟨0x8E, 4, .abs w, .stxAbs w⟩]

/-- The forms of `STY` (R266). -/
def styForms (b : Byte) (w : Word) : List StoreForm :=
  [⟨0x84, 3, .zp b, .styZp b⟩, ⟨0x94, 4, .zpx b, .styZpx b⟩, ⟨0x8C, 4, .abs w, .styAbs w⟩]

/-- The one-byte forms of the informal `NOP` (R308). -/
def nopOneByteForms : List PlainForm :=
  [⟨0x1A, 2, .nop1A⟩, ⟨0x3A, 2, .nop3A⟩, ⟨0x5A, 2, .nop5A⟩, ⟨0x7A, 2, .nop7A⟩, ⟨0xDA, 2, .nopDA⟩,
    ⟨0xFA, 2, .nopFA⟩]

/-- The immediate forms of the informal `NOP` (R308). -/
def nopImmediateForms (b : Byte) : List PlainForm :=
  [⟨0x80, 2, .nop80 b⟩, ⟨0x82, 2, .nop82 b⟩, ⟨0x89, 2, .nop89 b⟩, ⟨0xC2, 2, .nopC2 b⟩, ⟨0xE2, 2, .nopE2 b⟩]

/-- The forms of the informal `NOP` with a memory operand (R308). -/
def nopMemoryForms (b : Byte) (w : Word) : List StoreForm :=
  [⟨0x04, 3, .zp b, .nop04 b⟩, ⟨0x44, 3, .zp b, .nop44 b⟩, ⟨0x64, 3, .zp b, .nop64 b⟩,
    ⟨0x14, 4, .zpx b, .nop14 b⟩, ⟨0x34, 4, .zpx b, .nop34 b⟩, ⟨0x54, 4, .zpx b, .nop54 b⟩,
    ⟨0x74, 4, .zpx b, .nop74 b⟩, ⟨0xD4, 4, .zpx b, .nopD4 b⟩, ⟨0xF4, 4, .zpx b, .nopF4 b⟩,
    ⟨0x0C, 4, .abs w, .nop0C w⟩, ⟨0x1C, 4, .abx w, .nop1C w⟩, ⟨0x3C, 4, .abx w, .nop3C w⟩,
    ⟨0x5C, 4, .abx w, .nop5C w⟩, ⟨0x7C, 4, .abx w, .nop7C w⟩, ⟨0xDC, 4, .abx w, .nopDC w⟩,
    ⟨0xFC, 4, .abx w, .nopFC w⟩]

/-- The eight branches with their opcode bytes and conditions (42_control_transfer.md R220). -/
def branchForms (off : Byte) (s : State) : List (Byte × Bool × Instr) :=
  [(0x10, !s.p.n, .bpl off), (0x30, s.p.n, .bmi off), (0x50, !s.p.v, .bvc off), (0x70, s.p.v, .bvs off),
    (0x90, !s.p.c, .bcc off), (0xB0, s.p.c, .bcs off), (0xD0, !s.p.z, .bne off), (0xF0, s.p.z, .beq off)]

/-- The operations that assign `PC` themselves (30_encoding.md R107). -/
def controlTransfers : List Operation := [.BCC, .BCS, .BEQ, .BMI, .BNE, .BPL, .BVC, .BVS, .JMP, .JSR, .RTS, .RTI, .BRK]

/-- Whether a branch operation is taken (42_control_transfer.md R220). -/
def branchTaken (op : Operation) (p : Flags) : Bool :=
  match op with
  | .BPL => !p.n
  | .BMI => p.n
  | .BVC => !p.v
  | .BVS => p.v
  | .BCC => !p.c
  | .BCS => p.c
  | .BNE => !p.z
  | .BEQ => p.z
  | _ => false

/-- `extra` of 30_encoding.md R109: the branch surcharge (R111), or the page-cross surcharge of a row with
`page_cross_cycle` (R110). -/
def extraCycles (i : Instr) (s : State) : Nat :=
  match i.row.operand with
  | .rel off =>
    if branchTaken i.row.operation s.p then 1 + (decide (highByte (s.pc + 2) ≠ highByte (s.pc + 2 + sext off))).toNat
    else 0
  | .mem m => if i.row.pagePenalty then (resolve m s).crossed.toNat else 0
  | _ => 0

/-- The addresses an instruction stores to, computed as its meaning computes them: its resolved operand for a store or
a read-modify-write, its stack bytes for a push, none otherwise. -/
def storedAddresses (i : Instr) (s : State) : List Word :=
  match i.row.operation, i.row.operand with
  | .STA, .mem m | .STX, .mem m | .STY, .mem m | .INC, .mem m | .DEC, .mem m => [(resolve m s).ea]
  | .ASL, .mem m | .LSR, .mem m | .ROL, .mem m | .ROR, .mem m => [(resolve m s).ea]
  | .PHA, _ | .PHP, _ => [stackAddress s.sp]
  | .JSR, _ => [stackAddress s.sp, stackAddress (s.sp - 1)]
  | .BRK, _ => [stackAddress s.sp, stackAddress (s.sp - 1), stackAddress (s.sp - 2)]
  | _, _ => []

/-- The state with `D`, `I` and `B` replaced. -/
def withControlFlags (d i b : Bool) (s : State) : State := { s with p := { s.p with d := d, i := i, b := b } }

/-- The array bytes from `PC` on are the instruction's, and none is in the device window. -/
def FetchesPlainly (i : Instr) (s : State) : Prop :=
  ∀ k (h : k < (encode i).length),
    inWindow (s.pc + BitVec.ofNat 16 k) = false ∧ s.mem.read (s.pc + BitVec.ofNat 16 k) = (encode i)[k]

/-- The 72 opcode bytes without a descriptor (30_encoding.md R85). -/
def illegalBytes : List Byte :=
  [0x02, 0x03, 0x07, 0x0B, 0x0F, 0x12, 0x13, 0x17, 0x1B, 0x1F, 0x22, 0x23, 0x27, 0x2B, 0x2F, 0x32, 0x33, 0x37,
    0x3B, 0x3F, 0x42, 0x43, 0x47, 0x4B, 0x4F, 0x52, 0x53, 0x57, 0x5B, 0x5F, 0x62, 0x63, 0x67, 0x6B, 0x6F, 0x72,
    0x73, 0x77, 0x7B, 0x7F, 0x83, 0x87, 0x8B, 0x8F, 0x92, 0x93, 0x97, 0x9B, 0x9C, 0x9E, 0x9F, 0xAB, 0xB2, 0xBB,
    0xC3, 0xC7, 0xCB, 0xCF, 0xD2, 0xD3, 0xD7, 0xDB, 0xDF, 0xE3, 0xE7, 0xEB, 0xEF, 0xF2, 0xF3, 0xF7, 0xFB, 0xFF]

end Sys2Proof.Stated

open Sys2Proof.Stated

/-- For every configuration, every instruction well formed under it with every operand value, and any bytes after it,
decoding the encoded bytes gives exactly that instruction and leaves exactly those bytes. (from 30_encoding.md
R80-R86, R116, 00_scope.md R10.) -/
def Obligations.DecodeOfEncodeIsTheInstruction : Prop :=
  ∀ (c : Config) (i : Instr) (rest : List Byte), i.WellFormed c → decode c (encode i ++ rest) = .ok (i, rest)

/-- For every configuration and bytes, if decoding gives an instruction and a rest, the bytes are that instruction
encoded followed by that rest, and the instruction is well formed under the configuration. So each byte string has one
meaning. (from 30_encoding.md R80-R86, R116.) -/
def Obligations.DecodedBytesAreTheEncoding : Prop :=
  ∀ (c : Config) (bytes rest : List Byte) (i : Instr), decode c bytes = .ok (i, rest) →
    bytes = encode i ++ rest ∧ i.WellFormed c

/-- Under the default parameters, one word of each family written out byte by byte from the spec decodes to the
instruction it stands for. (from 95_test_vectors.md 2.1-2.9, 30_encoding.md R116.) -/
def Obligations.SpecWordsDecode : Prop :=
  decode defaults [0x69, 0x01] = .ok (.adcImm 0x01, []) ∧
  decode defaults [0xF1, 0x20] = .ok (.sbcIzy 0x20, []) ∧
  decode defaults [0x2C, 0x34, 0x12] = .ok (.bitAbs 0x1234, []) ∧
  decode defaults [0xFE, 0xFF, 0x10] = .ok (.incAbx 0x10FF, []) ∧
  decode defaults [0x0A] = .ok (.aslAcc, []) ∧
  decode defaults [0x90, 0x10] = .ok (.bcc 0x10, []) ∧
  decode defaults [0x6C, 0xFF, 0x30] = .ok (.jmpInd 0x30FF, []) ∧
  decode defaults [0x20, 0x00, 0xC1] = .ok (.jsr 0xC100, []) ∧
  decode defaults [0xB6, 0xFF] = .ok (.ldxZpy 0xFF, []) ∧
  decode defaults [0xB3, 0x40] = .ok (.laxIzy 0x40, []) ∧
  decode defaults [0x96, 0x10] = .ok (.stxZpy 0x10, []) ∧
  decode defaults [0x1C, 0xFF, 0x20] = .ok (.nop1C 0x20FF, [])

/-- Each of the 72 bytes of R85 decodes to none, and a ready step that fetches it, from the array or from the device,
raises the decode error with the address and the byte. R85 says so under the default INFORMAL_OPCODES; that it holds
under any other configuration too, one that names such a byte included, is the model's own deduction (log 14). (from
30_encoding.md R85, 60_exceptions.md R321, log 14.) -/
def Obligations.BytesWithoutDescriptorTrap : Prop :=
  (∀ (c : Config), ∀ op ∈ illegalBytes, (decodeOpcode c op).isNone = true) ∧
  ∀ s : State, s.Ready → (memRead s.pc s).1 ∈ illegalBytes →
    step s = .fault (.decodeError ⟨s.pc, (memRead s.pc s).1⟩)

/-- For each of the 33 informal bytes of R86: under a configuration it decodes to a descriptor if the byte is in
INFORMAL_OPCODES and to none if it is not; under the default all 33 do. (from 30_encoding.md R86, 92_eei_decisions.md
D9.) -/
def Obligations.InformalOpcodesFollowTheParameter : Prop :=
  informalBytes.length = 33 ∧ (∀ op ∈ informalBytes, (decodeOpcode defaults op).isSome = true) ∧
  ∀ (c : Config), ∀ op ∈ informalBytes, ((decodeOpcode c op).isSome = true ↔ op ∈ c.informalOpcodes)

/-- When the core is ready, an instruction is well formed, and the successive bus reads from PC, as many as its
encoding has bytes, give its bytes, the step is exec of that instruction at the state after those reads. (from
30_encoding.md R80, R107, R112, 20_memory.md R61.) -/
def Obligations.StepRunsTheDecodedInstruction : Prop :=
  ∀ (s : State) (i : Instr), s.Ready → i.WellFormed s.cfg → (readBytes (encode i).length s.pc s).1 = encode i →
    step s = exec i (readBytes (encode i).length s.pc s).2

/-- When the core is ready and the array bytes from PC on, none in the device window, are the encoding of a well-
formed instruction, the step is exec of that instruction at the same state: the fetch adds nothing. (from
30_encoding.md R80, R107, 20_memory.md R64.) -/
def Obligations.StepFromPlainMemoryIsExec : Prop :=
  ∀ (s : State) (i : Instr), s.Ready → i.WellFormed s.cfg → FetchesPlainly i s → step s = exec i s

/-- From any state a step answers a next state if and only if FAULT is none, PC is seeded, and the opcode byte read at
PC has a descriptor. (from 00_scope.md R14, 40_arithmetic_logic.md R141, 60_exceptions.md R320, R328, R330.) -/
def Obligations.StepCompletesExactlyWhenSafe : Prop :=
  ∀ s : State, (∃ t, step s = .next t) ↔ s.Safe

/-- When the core is ready and the opcode byte read at PC has no descriptor, the step raises the decode error with
that address and byte, and the state the host then observes is the state before it with FAULT set to them: no
register, flag, PC, CYC or memory cell changes, and the device history has only the opcode read itself. (states R321,
R322.) -/
def Obligations.DecodeErrorChangesOnlyTheLatch : Prop :=
  ∀ s : State, s.Ready → (decodeOpcode s.cfg (memRead s.pc s).1).isNone = true →
    step s = .fault (.decodeError ⟨s.pc, (memRead s.pc s).1⟩) ∧
    stepLatched s =
      { s with
        fault := some ⟨s.pc, (memRead s.pc s).1⟩
        ppuLog := if inWindow s.pc then .read s.pc :: s.ppuLog else s.ppuLog }

/-- With a decode error latched a step takes no step, answering the distinct stopped failure, and the state stays as
it is; a run asked of that state never ends normally, one of zero steps included; no step that completes latches a
fault; a reset clears the latch. That a run can be asked of a faulted state, and that one of zero steps then ends as
faulted, are the model's choice (log 19). (from 60_exceptions.md R323, 70_reset_and_hazards.md R365, log 19.) -/
def Obligations.LatchedFaultStopsTheCore : Prop :=
  (∀ (s : State) (e : DecodeError), s.fault = some e → step s = .fault (.stopped e) ∧ stepLatched s = s) ∧
  (∀ (n : Nat) (s : State) (e : DecodeError), s.fault = some e → (runTraced n s).ending ≠ .completed) ∧
  (∀ s t : State, step s = .next t → t.fault = none) ∧
  ∀ s : State, (resetMachine s).fault = none

/-- With no latched fault and PC not seeded, a step is refused by name, whatever the value of PC; the refusal carries
that value and the byte that a read there would give, no trace line is offered and no state changes; a constructed
machine is in that condition whatever its undefined PC, and after a reset it is not. What the two carried values are
while PC is undefined, and that the refused step reads nothing, are the model's choice (log 18); the seeding bit and the
argument of construct are the model's (log 7). (from 70_reset_and_hazards.md R352, R362, 92_eei_decisions.md D32, D34,
log 7, log 18.) -/
def Obligations.UnseededStepIsRefused : Prop :=
  (∀ s : State, s.fault = none → s.pcSeeded = false →
    step s = .refused (.pcNotSeeded s.pc (memRead s.pc s).1) ∧ traceLine s = none ∧ stepLatched s = s) ∧
  (∀ (c : Config) (initMem : Memory) (undefinedPc : Word),
    step (construct c initMem undefinedPc) =
      .refused (.pcNotSeeded undefinedPc (memRead undefinedPc (construct c initMem undefinedPc)).1)) ∧
  ∀ s : State, (resetMachine s).pcSeeded = true

/-- For every state with a canonical memory, a device history of window accesses only, a bounded cycle counter below
its bound and a latch that names illegal opcodes only: if a step answers a next state, that state has all of these
too. (from 10_state.md R34, R35, 20_memory.md R61, log 5 (the canonical form is the model's).) -/
def Obligations.EveryStepKeepsTheInvariant : Prop :=
  ∀ s t : State, Inv s → step s = .next t → Inv t

/-- The invariant holds at the state after reset. (from 10_state.md R37, log 5 (the empty list of cells is the
model's).) -/
def Obligations.ResetMeetsTheInvariant : Prop :=
  Inv State.reset

/-- Two memories in canonical form that read alike at every address are the same list. The canonical form is the
model's own choice (log 5). (from 20_memory.md R50, R51, log 5.) -/
def Obligations.EqualMemoriesAreEqualData : Prop :=
  ∀ m n : Memory, m.wf = true → n.wf = true → (∀ a : Word, m.read a = n.read a) → m = n

/-- If a step answers a next state, the configuration and the seeding of PC are as before, every array cell under the
window keeps its byte, and the device history is the old one with window accesses added in front. That the
configuration is a field of State (log 1), that the seeding is a bit of it (log 7), and that the history is a list
with the newest access in front (log 4) are the model's. (from 20_memory.md R61-R63, 10_state.md R36,
70_reset_and_hazards.md R350, R352, log 1, log 4, log 7.) -/
def Obligations.StepsNeverWriteConfigurationOrWindowCells : Prop :=
  ∀ s t : State, step s = .next t →
    t.cfg = s.cfg ∧ t.pcSeeded = s.pcSeeded ∧ (∀ a, inWindow a = true → t.mem.read a = s.mem.read a) ∧
    ∃ added : List PpuEvent, t.ppuLog = added ++ s.ppuLog ∧ ∀ e ∈ added, inWindow (ppuEventAddress e) = true

/-- With PULL_LOADS_B false, a step that answers a next state leaves the live B flag as it was. (from 10_state.md R31,
92_eei_decisions.md D14, D17.) -/
def Obligations.LiveBreakFlagIsNeverWritten : Prop :=
  ∀ s t : State, s.cfg.pullLoadsB = false → step s = .next t → t.p.b = s.p.b

/-- From a state with the invariant, the state at the end of a run of any requested length, the latched state after a
decode error included, has the invariant. A run that ends normally has one trace line for each step and ends in the
state that the same number of steps of the core gives. (from 70_reset_and_hazards.md R362, R365, 60_exceptions.md
R321, log 5.) -/
def Obligations.RunsKeepTheInvariantAndTraceEveryStep : Prop :=
  (∀ (n : Nat) (s : State), Inv s → Inv (runTraced n s).final) ∧
  ∀ (n : Nat) (s : State), RunsSafely n s →
    (runTraced n s).trace.length = n ∧ Host.Core.run core n s = .next (runTraced n s).final

/-- For every instruction and state, if exec answers a next state in which a flag differs, the instruction is one of
those the table of R27 names as writers of that flag; Z and N also by TXS when TXS_SETS_NZ, and B by PLP and RTI only
when PULL_LOADS_B. (from 10_state.md R27.) -/
def Obligations.FlagsChangeOnlyAsTheTableSays : Prop :=
  ∀ (i : Instr) (s t : State), exec i s = .next t →
    (t.p.c ≠ s.p.c → i.row.operation ∈
      [.ADC, .SBC, .CMP, .CPX, .CPY, .ASL, .LSR, .ROL, .ROR, .CLC, .SEC, .PLP, .RTI]) ∧
    (t.p.z ≠ s.p.z ∨ t.p.n ≠ s.p.n → i.row.operation ∈
        [.ADC, .SBC, .AND, .ORA, .EOR, .BIT, .CMP, .CPX, .CPY, .INC, .DEC, .INX, .INY, .DEX, .DEY, .ASL, .LSR, .ROL,
          .ROR, .LDA, .LDX, .LDY, .LAX, .TAX, .TAY, .TXA, .TYA, .TSX, .PLA, .PLP, .RTI] ∨
      (i.row.operation = .TXS ∧ s.cfg.txsSetsNz = true)) ∧
    (t.p.v ≠ s.p.v → i.row.operation ∈ [.ADC, .SBC, .BIT, .CLV, .PLP, .RTI]) ∧
    (t.p.i ≠ s.p.i → i.row.operation ∈ [.SEI, .CLI, .BRK, .PLP, .RTI]) ∧
    (t.p.d ≠ s.p.d → i.row.operation ∈ [.SED, .CLD, .PLP, .RTI]) ∧
    (t.p.b ≠ s.p.b → i.row.operation ∈ [.PLP, .RTI] ∧ s.cfg.pullLoadsB = true)

/-- For every instruction and state, if exec answers a next state: A differs only after an instruction of R21 that has
A as destination (a shift or rotate only in Accumulator mode), X and Y only after those of R22 and R23, SP only after
a push, a pull or TXS (R26); FAULT, the seeding of PC and the configuration never differ. That the configuration (log
1) and the seeding (log 7) are fields of State is the model's. (from 10_state.md R21, R22, R23, R26, R35, R36,
70_reset_and_hazards.md R350, R352, log 1, log 7.) -/
def Obligations.RegistersChangeOnlyByTheirWriters : Prop :=
  ∀ (i : Instr) (s t : State), exec i s = .next t →
    (t.a ≠ s.a → i.row.operation ∈ [.ADC, .SBC, .AND, .ORA, .EOR, .LDA, .LAX, .TXA, .TYA, .PLA] ∨
      (i.row.operation ∈ [.ASL, .LSR, .ROL, .ROR] ∧ i.row.operand = .acc)) ∧
    (t.x ≠ s.x → i.row.operation ∈ [.LDX, .LAX, .TAX, .TSX, .INX, .DEX]) ∧
    (t.y ≠ s.y → i.row.operation ∈ [.LDY, .TAY, .INY, .DEY]) ∧
    (t.sp ≠ s.sp → i.row.operation ∈ [.TXS, .PHA, .PHP, .PLA, .PLP, .JSR, .RTS, .BRK, .RTI]) ∧
    t.fault = s.fault ∧ t.pcSeeded = s.pcSeeded ∧ t.cfg = s.cfg

/-- For every instruction and state, if exec answers a next state, every address that is not one the instruction
stores to reads as before: the resolved operand of a store or read-modify-write, the stack bytes of PHA, PHP, JSR and
BRK, none for any other instruction. (from 30_encoding.md R105, R112, 20_memory.md R58, R64.) -/
def Obligations.MemoryChangesOnlyWhereStored : Prop :=
  ∀ (i : Instr) (s t : State), exec i s = .next t → ∀ a, a ∉ storedAddresses i s → t.mem.read a = s.mem.read a

/-- For every instruction and state, if exec answers a next state, CYC grew by the base cost of the instruction's row
plus the surcharge: 0 or 1 plus the page cross for a branch, the page cross for a row with page_cross_cycle, 0
otherwise; it is stored modulo 2^w when the counter has width w. (from 30_encoding.md R109, R110, R111, R116,
10_state.md R34.) -/
def Obligations.CycleCostOfEveryInstruction : Prop :=
  ∀ (i : Instr) (s t : State), exec i s = .next t →
    t.cyc = cycleValue s.cfg (s.cyc + i.row.baseCycles + extraCycles i s)

/-- For every instruction that is not one of the thirteen control transfers, if exec answers a next state, PC is the
old PC plus the instruction's length modulo 0x10000. (from 30_encoding.md R107, R108, 10_state.md R25.) -/
def Obligations.PcAdvancesPastTheInstruction : Prop :=
  ∀ (i : Instr) (s t : State), i.row.operation ∉ controlTransfers → exec i s = .next t → t.pc = pcPast i s

/-- For every instruction other than PHP and BRK: if exec answers a next state, then from the same state with D, I and
B replaced by any values it also answers a next state, and the two next states differ in D, I and B at most. It compares
two executions, and holds because a read of the device window gets the same answer in both, since the two states have
the same device history: that is the model's choice (log 3), and a device that answers otherwise would break it. PHP and
BRK, which push D and I, are left to StackOperationsMoveOneByte (O54) and BrkTakesTheTrap (O47). (from 10_state.md R32,
R33, 40_arithmetic_logic.md R142, log 3.) -/
def Obligations.ControlFlagsInfluenceOnlyThePushedStatus : Prop :=
  ∀ (i : Instr) (s t : State) (d ii b : Bool), i.row.operation ∉ [.PHP, .BRK] → exec i s = .next t →
    ∃ t', exec i (withControlFlags d ii b s) = .next t' ∧ withControlFlags d ii b t' = withControlFlags d ii b t

/-- The window is exactly 0x2000 to 0x2007 and 0x4014; a read there gives the device's answer for the history so far
and is added to the history, the array cell not being read; a write there is added as an event with its byte and
changes no cell. That the answer is a function of that history and the address is the model's choice (log 3), and so is
that the history is a list with the newest access in front (log 4). (from 20_memory.md R61, R62, R63, log 3, log 4.) -/
def Obligations.WindowIsNineAddressesRoutedToTheDevice : Prop :=
  (∀ a : Word, inWindow a = true ↔
      a ∈ [0x2000, 0x2001, 0x2002, 0x2003, 0x2004, 0x2005, 0x2006, 0x2007, (0x4014 : Word)]) ∧
  ∀ (s : State) (a : Word) (v : Byte), inWindow a = true →
    memRead a s = (Config.ppuAnswer s.ppuLog a, { s with ppuLog := .read a :: s.ppuLog }) ∧
    memWrite a v s = { s with ppuLog := .write a v :: s.ppuLog }

/-- For any state, an address outside the window: after a write there, a read there gives the byte written; a read at
any other address outside the window gives what it gave before the write; a read changes nothing; the write changes
nothing but the memory array. (from 20_memory.md R64.) -/
def Obligations.PlainStorageReadsTheLastByteWritten : Prop :=
  ∀ (s : State) (a : Word) (v : Byte), inWindow a = false →
    (memRead a (memWrite a v s)).1 = v ∧ (memRead a s).2 = s ∧
    memWrite a v s = { s with mem := (memWrite a v s).mem } ∧
    ∀ a', inWindow a' = false → a' ≠ a → (memRead a' (memWrite a v s)).1 = (memRead a' s).1

/-- A 16-bit read reads the byte at a, then the byte at a + 1 modulo 0x10000, and gives the second shifted left by 8
or-ed with the first; a 16-bit write writes the low byte at a, then the high byte at a + 1. (from 20_memory.md R53,
R55, R57, 92_eei_decisions.md D28, D29.) -/
def Obligations.WordAccessesAreLittleEndian : Prop :=
  ∀ (s : State) (a w : Word),
    memRead16 a s =
      (((memRead (a + 1) (memRead a s).2).1.setWidth 16 <<< 8) ||| (memRead a s).1.setWidth 16,
        (memRead (a + 1) (memRead a s).2).2) ∧
    memWrite16 a w s = memWrite (a + 1) ((w >>> 8).setWidth 8) (memWrite a (w.setWidth 8) s)

/-- A push writes its byte at 0x0100 + SP and then decrements SP modulo 0x100; a pop increments SP modulo 0x100 and
then gives the byte at 0x0100 + SP; neither touches anything else. With SP = 0x00 a push writes 0x0100 and leaves SP =
0xFF, and with SP = 0xFF a pop reads 0x0100 and leaves SP = 0x00. (states R58, R59.) -/
def Obligations.PushAndPopWrapInTheStackPage : Prop :=
  ∀ (s : State) (v : Byte),
    push v s = { s with mem := s.mem.write (0x0100 + s.sp.setWidth 16) v, sp := s.sp - 1 } ∧
    pop s = (s.mem.read (0x0100 + (s.sp + 1).setWidth 16), { s with sp := s.sp + 1 }) ∧
    (s.sp = 0x00 → push v s = { s with mem := s.mem.write 0x0100 v, sp := 0xFF }) ∧
    (s.sp = 0xFF → pop s = (s.mem.read 0x0100, { s with sp := 0x00 }))

/-- ZP gives b1; ZPX and ZPY give b1 plus the index modulo 0x100; ABS gives the operand word; ABX and ABY give the
word plus the index modulo 0x10000, with crossed exactly when the page of the result differs from the page of the
word. None makes a memory access. The operand bytes are b1, or the word low byte first; ZPY belongs to LDX, STX and
LAX only. (states R91, R92, R93, R94, R95, R96.) -/
def Obligations.DirectAndIndexedModesResolve : Prop :=
  ∀ (s : State) (z : Byte) (w : Word),
    resolve (.zp z) s = ⟨z.setWidth 16, false, s⟩ ∧
    resolve (.zpx z) s = ⟨(z + s.x).setWidth 16, false, s⟩ ∧
    resolve (.zpy z) s = ⟨(z + s.y).setWidth 16, false, s⟩ ∧
    resolve (.abs w) s = ⟨w, false, s⟩ ∧
    resolve (.abx w) s =
      ⟨w + s.x.setWidth 16, decide ((w >>> 8) ≠ ((w + s.x.setWidth 16) >>> 8)), s⟩ ∧
    resolve (.aby w) s =
      ⟨w + s.y.setWidth 16, decide ((w >>> 8) ≠ ((w + s.y.setWidth 16) >>> 8)), s⟩ ∧
    MemOperand.bytes (.zp z) = [z] ∧ MemOperand.bytes (.zpx z) = [z] ∧ MemOperand.bytes (.zpy z) = [z] ∧
    MemOperand.bytes (.abs w) = [w.setWidth 8, (w >>> 8).setWidth 8] ∧
    MemOperand.bytes (.abx w) = [w.setWidth 8, (w >>> 8).setWidth 8] ∧
    MemOperand.bytes (.aby w) = [w.setWidth 8, (w >>> 8).setWidth 8] ∧
    ∀ i : Instr, i.row.operand = .mem (.zpy z) → i.row.operation ∈ [.LDX, .STX, .LAX]

/-- IZX reads the pointer at p = (b1 + X) mod 0x100 and at q, and crosses no page; IZY reads the pointer at b1 and at
q, adds Y modulo 0x10000, and crosses when the page changes; q is p + 1 modulo 0x100 when ZP_POINTER_WRAP is true and
p + 1 when it is false. The low byte is read first; both have one operand byte. (states R97, R98.) -/
def Obligations.IndirectModesReadTheirPointers : Prop :=
  ∀ (s : State) (z : Byte),
    let q : Byte → Word := fun p => if s.cfg.zpPointerWrap then (p + 1).setWidth 16 else p.setWidth 16 + 1
    let lo : Byte → Byte × State := fun p => memRead (p.setWidth 16) s
    let hi : Byte → Byte × State := fun p => memRead (q p) (lo p).2
    let word : Byte → Word := fun p => ((hi p).1.setWidth 16 <<< 8) ||| (lo p).1.setWidth 16
    resolve (.izx z) s = ⟨word (z + s.x), false, (hi (z + s.x)).2⟩ ∧
    resolve (.izy z) s =
      ⟨word z + s.y.setWidth 16, decide ((word z >>> 8) ≠ ((word z + s.y.setWidth 16) >>> 8)), (hi z).2⟩ ∧
    MemOperand.bytes (.izx z) = [z] ∧ MemOperand.bytes (.izy z) = [z]

/-- The effective address of ZP, ZPX and ZPY is below 0x0100 for every operand and index; so is the address of a
pointer's high byte unless ZP_POINTER_WRAP is false; crossed is set only by ABX, ABY and IZY. (from 30_encoding.md
R102, R103.) -/
def Obligations.ZeroPageAddressesNeverLeaveThePage : Prop :=
  ∀ (s : State) (m : MemOperand),
    (m.mode ∈ [.ZP, .ZPX, .ZPY] → (resolve m s).ea.toNat < 0x100) ∧
    (∀ p : Byte, s.cfg.zpPointerWrap = true → (pointerHighAddress s.cfg p).toNat < 0x100) ∧
    ((resolve m s).crossed = true → m.mode ∈ [.ABX, .ABY, .IZY])

/-- Resolving a memory operand and reading an operand leave every register, flag, PC, CYC, FAULT, memory cell and the
configuration as they were; an immediate operand is the byte itself and makes no access; a memory operand is one read
of the resolved address after the resolver's pointer reads. (from 30_encoding.md R87, R90, R104, R112.) -/
def Obligations.OperandReadsTouchOnlyTheDeviceHistory : Prop :=
  ∀ (s : State) (m : MemOperand) (v : Byte),
    (resolve m s).after = { s with ppuLog := (resolve m s).after.ppuLog } ∧
    readOperand (.imm v) s = ⟨v, false, s⟩ ∧
    (readOperand (.mem m) s).value = (memRead (resolve m s).ea (resolve m s).after).1 ∧
    (readOperand (.mem m) s).crossed = (resolve m s).crossed ∧
    (readOperand (.mem m) s).after = { s with ppuLog := (memRead (resolve m s).ea (resolve m s).after).2.ppuLog }

/-- Packing gives N V 1 B D I Z C from bit 7 to bit 0; packing what unpacking a byte gives is that byte with bit 5
set; unpacking what packing gives is the flags; unpacking ignores bit 5. (from 10_state.md R28, R29, R30.) -/
def Obligations.StatusPackingRoundTrips : Prop :=
  (∀ p : Flags, getStatus p = BitVec.ofNat 8 (p.n.toNat * 128 + p.v.toNat * 64 + 32 + p.b.toNat * 16 + p.d.toNat * 8 +
      p.i.toNat * 4 + p.z.toNat * 2 + p.c.toNat) ∧ setStatus (getStatus p) = p) ∧
  ∀ x : Byte, getStatus (setStatus x) = x ||| 0x20 ∧ setStatus (x ^^^ 0x20) = setStatus x ∧
    setStatus x = ⟨x[7], x[6], x[4], x[3], x[2], x[1], x[0]⟩

/-- Every form of ADC, with its opcode byte and operand bytes, completes: A becomes A + m + C modulo 0x100, C the
carry out, V by the sign rule, N and Z from the result; D is not consulted; everything else but PC, CYC and the device
history of the reads is unchanged. (states R145.) -/
def Obligations.AdcAddsWithCarry : Prop :=
  Reads adcForms fun s m =>
    let t := s.a.toNat + m.toNat + s.p.c.toNat
    let r : Byte := BitVec.ofNat 8 t
    { s with
      a := r
      p := { s.p with c := decide (t > 0xFF), v := ((s.a ^^^ r) &&& (m ^^^ r))[7], z := decide (r = 0), n := r[7] } }

/-- Every form of SBC, with its opcode byte and operand bytes, completes: with t = A - m - (1 - C) as an exact
integer, A becomes t modulo 0x100, C is t >= 0, V by the sign rule, N and Z from the result; everything else but PC,
CYC and the device history of the reads is unchanged. (from 40_arithmetic_logic.md R146.) -/
def Obligations.SbcSubtractsWithBorrow : Prop :=
  Reads sbcForms fun s m =>
    let t : Int := (s.a.toNat : Int) - (m.toNat : Int) - (1 - (s.p.c.toNat : Int))
    let r : Byte := BitVec.ofInt 8 (t % 0x100)
    { s with
      a := r
      p := { s.p with c := decide (t ≥ 0), v := ((s.a ^^^ m) &&& (s.a ^^^ r))[7], z := decide (r = 0), n := r[7] } }

/-- After ADC of any byte: C is 1 exactly when a + m + c exceeds 255; V is 1 exactly when a and m share a sign bit and
the result has the other, which is exactly when the signed sum is outside -128 to 127. (from 95_test_vectors.md E6,
40_arithmetic_logic.md R143, R145.) -/
def Obligations.AdcCarryAndOverflowAreExact : Prop :=
  ∀ (s t : State) (m : Byte), exec (.adcImm m) s = .next t →
    (t.p.c = true ↔ s.a.toNat + m.toNat + s.p.c.toNat > 255) ∧
    (t.p.v = true ↔ s.a[7] = m[7] ∧ t.a[7] ≠ s.a[7]) ∧
    (t.p.v = true ↔ s.a.toInt + m.toInt + s.p.c.toNat < -128 ∨ 127 < s.a.toInt + m.toInt + s.p.c.toNat)

/-- For every state and byte, SBC immediate of m gives exactly the outcome of ADC immediate of the bitwise complement
of m; and V after SBC is 1 exactly when the signed difference a - m - (1 - c) is outside -128 to 127. (from
40_arithmetic_logic.md R143, R146.) -/
def Obligations.SbcIsAdcOfTheComplement : Prop :=
  ∀ (s t : State) (m : Byte),
    exec (.sbcImm m) s = exec (.adcImm (~~~m)) s ∧
    (exec (.sbcImm m) s = .next t →
      (t.p.v = true ↔ s.a.toInt - m.toInt - (1 - s.p.c.toNat) < -128 ∨ 127 < s.a.toInt - m.toInt - (1 - s.p.c.toNat)))

/-- Every form of AND, ORA and EOR, with its opcode byte and operand bytes, completes: A becomes the bitwise and, or,
exclusive or of A and the operand, N and Z from it; C, V, I, D, B and everything else but PC, CYC and the device
history of the reads are unchanged. (states R147, R148, R149.) -/
def Obligations.LogicOperationsIntoA : Prop :=
  (Reads andForms fun s m => { s with a := s.a &&& m, p := nzOf (s.a &&& m) s.p }) ∧
  (Reads oraForms fun s m => { s with a := s.a ||| m, p := nzOf (s.a ||| m) s.p }) ∧
  (Reads eorForms fun s m => { s with a := s.a ^^^ m, p := nzOf (s.a ^^^ m) s.p })

/-- Both forms of BIT, with their opcode bytes and operand bytes, complete: Z from A and the operand being disjoint, N
and V from bits 7 and 6 of the operand; A, C, I, D, B and everything else but PC, CYC and the device history of the
reads are unchanged. (states R150.) -/
def Obligations.BitTestsWithoutWritingA : Prop :=
  Reads bitForms fun s m => { s with p := { s.p with z := decide (s.a &&& m = 0), n := m[7], v := m[6] } }

/-- Every form of CMP, CPX and CPY, with its opcode byte and operand bytes, completes: C is 1 exactly when the
register is at least the operand, unsigned; N and Z from the difference modulo 0x100; no register, V, I, D, B or
anything else but PC, CYC and the device history of the reads changes. (states R151, R152, R153.) -/
def Obligations.ComparesSetFlagsOnly : Prop :=
  (Reads cmpForms fun s m => { s with p := comparedFlags s.a m s.p }) ∧
  (Reads cpxForms fun s m => { s with p := comparedFlags s.x m s.p }) ∧
  (Reads cpyForms fun s m => { s with p := comparedFlags s.y m s.p })

/-- Every form of INC and DEC, with its opcode byte and operand bytes, completes: one read then one write of the
resolved address, the byte plus or minus 1 modulo 0x100, N and Z from it; no surcharge; C, V, I, D, B and the
registers are unchanged. (states R154, R155.) -/
def Obligations.IncAndDecChangeOneMemoryByte : Prop :=
  (Modifies incForms fun m p => (m + 1, nzOf (m + 1) p)) ∧ (Modifies decForms fun m p => (m - 1, nzOf (m - 1) p))

/-- INX, INY, DEX and DEY complete: the index register plus or minus 1 modulo 0x100, N and Z from it; nothing else but
PC and CYC changes. (states R156, R157, R158, R159.) -/
def Obligations.IndexRegistersStepByOne : Prop :=
  (Plain ⟨0xE8, 2, .inx⟩ fun s => { s with x := s.x + 1, p := nzOf (s.x + 1) s.p }) ∧
  (Plain ⟨0xC8, 2, .iny⟩ fun s => { s with y := s.y + 1, p := nzOf (s.y + 1) s.p }) ∧
  (Plain ⟨0xCA, 2, .dex⟩ fun s => { s with x := s.x - 1, p := nzOf (s.x - 1) s.p }) ∧
  (Plain ⟨0x88, 2, .dey⟩ fun s => { s with y := s.y - 1, p := nzOf (s.y - 1) s.p })

/-- Every form of ASL, LSR, ROL and ROR, with its opcode byte and operand bytes, completes: A in Accumulator form or
the memory byte moves by one bit, the bit shifted out goes to C, 0 comes in for a shift and the old carry for a
rotate, N and Z from the result; V, I, D, B and all else are unchanged; one read then one write of memory, no
surcharge. (states R201, R202, R203, R204.) -/
def Obligations.ShiftsAndRotatesMoveOneBit : Prop :=
  (Modifies aslForms fun m p => (m <<< 1, nzOf (m <<< 1) { p with c := m[7] })) ∧
  (Modifies lsrForms fun m p => (m >>> 1, nzOf (m >>> 1) { p with c := m[0] })) ∧
  (Modifies rolForms fun m p =>
    let r : Byte := BitVec.ofNat 8 (2 * m.toNat + p.c.toNat)
    (r, nzOf r { p with c := m[7] })) ∧
  (Modifies rorForms fun m p =>
    let r : Byte := BitVec.ofNat 8 (m.toNat / 2 + 128 * p.c.toNat)
    (r, nzOf r { p with c := m[0] }))

/-- Every branch, with its opcode byte and offset byte, completes: with its condition false PC is the address after it
and the cost is 2; with it true PC is that address plus the signed offset modulo 0x10000 and the cost is 3, or 4 when
the target is on another page than the address after the branch. No flag or anything else changes. (states R220, R221,
R222, R223, R224, R225, R226, R227, R228.) -/
def Obligations.BranchesFollowTheirConditions : Prop :=
  ∀ (s : State) (off : Byte), ∀ f ∈ branchForms off s,
    let next : Word := s.pc + 2
    let t : Word := BitVec.ofInt 16 ((next.toNat : Int) + off.toInt)
    encode f.2.2 = [f.1, off] ∧
    (f.2.1 = false → exec f.2.2 s = .next { s with pc := next, cyc := cycAfter s 2 }) ∧
    (f.2.1 = true → exec f.2.2 s = .next
      { s with pc := t, cyc := cycAfter s (if highByte next = highByte t then 3 else 4) })

/-- JMP absolute, 4C with its target word, sets PC to the word, cost 3. JMP indirect, 6C with its pointer word w,
reads the byte at w, then the byte at the high byte of w with (low byte of w) + 1 modulo 0x100, and sets PC from them,
low byte first, cost 5. Nothing else but the device history of the reads changes. (states R229, R230.) -/
def Obligations.JumpsSetPc : Prop :=
  ∀ (s : State) (w : Word),
    let hiAddr : Word := wordOf (lowByte w + 1) (highByte w)
    let lo := memRead w s
    let hi := memRead hiAddr lo.2
    encode (.jmpAbs w) = [0x4C, lowByte w, highByte w] ∧
    exec (.jmpAbs w) s = .next { s with pc := w, cyc := cycAfter s 3 } ∧
    encode (.jmpInd w) = [0x6C, lowByte w, highByte w] ∧
    exec (.jmpInd w) s = .next
      { s with pc := wordOf lo.1 hi.1, cyc := cycAfter s 5, ppuLog := hi.2.ppuLog }

/-- JSR, 20 with its target word, completes: the address of its own last byte, PC + 2, is pushed, high byte at 0x0100
+ SP and low byte at 0x0100 + (SP - 1) modulo 0x100; SP drops by 2 modulo 0x100; PC is the target; cost 6; no flag or
anything else changes. (states R231.) -/
def Obligations.JsrPushesItsLastByteAddress : Prop :=
  ∀ (s : State) (w : Word),
    encode (.jsr w) = [0x20, lowByte w, highByte w] ∧
    exec (.jsr w) s = .next
      { s with
        mem := (s.mem.write (stackAddress s.sp) (highByte (s.pc + 2))).write (stackAddress (s.sp - 1))
          (lowByte (s.pc + 2))
        sp := s.sp - 2
        pc := w
        cyc := cycAfter s 6 }

/-- RTS, 60, completes: PC is the word whose low byte is at 0x0100 + (SP + 1) and high byte at 0x0100 + (SP + 2), both
offsets modulo 0x100, plus 1 modulo 0x10000; SP rises by 2 modulo 0x100; cost 6; no flag, memory byte or anything else
changes. (states R232.) -/
def Obligations.RtsReturnsPastThePushedAddress : Prop :=
  ∀ s : State,
    encode .rts = [0x60] ∧
    exec .rts s = .next
      { s with
        pc := wordOf (s.mem.read (stackAddress (s.sp + 1))) (s.mem.read (stackAddress (s.sp + 2))) + 1
        sp := s.sp + 2
        cyc := cycAfter s 6 }

/-- BRK, 00, completes by taking the trap: the high and low bytes of PC + BRK_RETURN_OFFSET and then the status byte
with bit 4 set are pushed, SP dropping by 3 modulo 0x100; I becomes 1, the live B and every other flag unchanged; PC
is the word at the vector 0xFFFE, which the pushes cannot change; cost 7; nothing else changes. (states R233.) -/
def Obligations.BrkTakesTheTrap : Prop :=
  ∀ s : State,
    let ret : Word := s.pc + BitVec.ofNat 16 s.cfg.brkReturnOffset.val
    encode .brk = [0x00] ∧
    exec .brk s = .next
      { s with
        mem := ((s.mem.write (stackAddress s.sp) (highByte ret)).write (stackAddress (s.sp - 1)) (lowByte ret)).write
          (stackAddress (s.sp - 2)) (getStatus s.p ||| 0x10)
        sp := s.sp - 3
        p := { s.p with i := true }
        pc := wordOf (s.mem.read 0xFFFE) (s.mem.read 0xFFFF)
        cyc := cycAfter s 7 }

/-- RTI, 40, completes: the status byte is popped, N, V, D, I, Z and C loaded from it, B only when PULL_LOADS_B, bit 5
ignored; then PC low and high byte are popped, with no adjustment; SP rises by 3 modulo 0x100; cost 6; no memory byte
or anything else changes. (states R234.) -/
def Obligations.RtiRestoresStatusAndPc : Prop :=
  ∀ s : State,
    let x : Byte := s.mem.read (stackAddress (s.sp + 1))
    encode .rti = [0x40] ∧
    exec .rti s = .next
      { s with
        p := { n := x[7], v := x[6], b := if s.cfg.pullLoadsB then x[4] else s.p.b, d := x[3], i := x[2], z := x[1],
               c := x[0] }
        pc := wordOf (s.mem.read (stackAddress (s.sp + 2))) (s.mem.read (stackAddress (s.sp + 3)))
        sp := s.sp + 3
        cyc := cycAfter s 6 }

/-- From any state, a JSR to any target and then an RTS both complete, and after them PC is the address after the JSR,
SP and every other register and flag as before the JSR. (from 42_control_transfer.md R231, R232, 95_test_vectors.md
E11.) -/
def Obligations.JsrThenRtsReturnsAfterTheCall : Prop :=
  ∀ (s : State) (w : Word), ∃ t u, exec (.jsr w) s = .next t ∧ exec .rts t = .next u ∧
    u.pc = s.pc + 3 ∧ u.sp = s.sp ∧ u.a = s.a ∧ u.x = s.x ∧ u.y = s.y ∧ u.p = s.p

/-- From any state, a BRK and then an RTI with the stack as BRK left it both complete, and after them SP and the other
registers are as before the BRK, PC is the BRK's address plus BRK_RETURN_OFFSET, and the flags are as before, except
that B is 1 when PULL_LOADS_B; so under the defaults PC and the whole status byte are restored. (from 60_exceptions.md
R325, 42_control_transfer.md R233, R234, 95_test_vectors.md E12.) -/
def Obligations.BrkThenRtiRestoresPcAndStatus : Prop :=
  ∀ s : State, ∃ t u, exec .brk s = .next t ∧ exec .rti t = .next u ∧
    u.sp = s.sp ∧ u.a = s.a ∧ u.x = s.x ∧ u.y = s.y ∧
    u.pc = s.pc + BitVec.ofNat 16 s.cfg.brkReturnOffset.val ∧
    u.p = { s.p with b := if s.cfg.pullLoadsB then true else s.p.b } ∧
    (s.cfg = defaults → u.pc = s.pc ∧ getStatus u.p = getStatus s.p)

/-- Every form of LDA, LDX, LDY and LAX, with its opcode byte and operand bytes, completes: the operand goes to the
register, to both A and X for LAX, N and Z from it; everything else but PC, CYC and the device history of the reads is
unchanged. LAX exists only while its byte is in INFORMAL_OPCODES, and AB, under any configuration, is no form of it. R263
by R85 and D9 says that of AB under the default INFORMAL_OPCODES; that it holds under any other configuration too, one
that names AB included, is the model's own deduction (log 14). (from 43_load_store_transfer_stack.md R260, R261, R262,
R263, 30_encoding.md R85, R86, 92_eei_decisions.md D9, log 14.) -/
def Obligations.LoadsSetRegisterAndFlags : Prop :=
  (Reads ldaForms fun s m => { s with a := m, p := nzOf m s.p }) ∧
  (Reads ldxForms fun s m => { s with x := m, p := nzOf m s.p }) ∧
  (Reads ldyForms fun s m => { s with y := m, p := nzOf m s.p }) ∧
  (Reads laxForms fun s m => { s with a := m, x := m, p := nzOf m s.p }) ∧
  ∀ (c : Config), (decodeOpcode c 0xAB).isNone = true ∧
    ∀ (b : Byte) (w : Word), ∀ f ∈ laxForms b w, f.opcode ∉ c.informalOpcodes → (decodeOpcode c f.opcode).isNone = true

/-- Every form of STA, STX and STY, with its opcode byte and operand bytes, completes: the register is written at the
resolved address by one bus write, without a read there; no flag is written and no surcharge added; everything else
but PC, CYC and the device history is unchanged. (states R264, R265, R266.) -/
def Obligations.StoresWriteOneByte : Prop :=
  (Stores staForms fun s => s.a) ∧ (Stores stxForms fun s => s.x) ∧ (Stores styForms fun s => s.y)

/-- TAX, TAY, TXA, TYA and TSX copy one register to another with N and Z from it; TXS copies X to SP and writes N and
Z only when TXS_SETS_NZ. Nothing else but PC and CYC changes; each costs 2. (states R267, R268, R269, R270, R271,
R272.) -/
def Obligations.TransfersCopyRegisters : Prop :=
  (Plain ⟨0xAA, 2, .tax⟩ fun s => { s with x := s.a, p := nzOf s.a s.p }) ∧
  (Plain ⟨0xA8, 2, .tay⟩ fun s => { s with y := s.a, p := nzOf s.a s.p }) ∧
  (Plain ⟨0x8A, 2, .txa⟩ fun s => { s with a := s.x, p := nzOf s.x s.p }) ∧
  (Plain ⟨0x98, 2, .tya⟩ fun s => { s with a := s.y, p := nzOf s.y s.p }) ∧
  (Plain ⟨0xBA, 2, .tsx⟩ fun s => { s with x := s.sp, p := nzOf s.sp s.p }) ∧
  (Plain ⟨0x9A, 2, .txs⟩ fun s => { s with sp := s.x, p := if s.cfg.txsSetsNz then nzOf s.x s.p else s.p })

/-- PHA pushes A and PHP the status byte with bit 4 set at 0x0100 + SP, and SP drops by 1 modulo 0x100, no flag
changing, the live B included; cost 3. PLA pulls A with N and Z from it and PLP pulls N, V, D, I, Z and C, B only when
PULL_LOADS_B, bit 5 ignored, from 0x0100 + (SP + 1) modulo 0x100, and SP rises by 1; cost 4. Nothing else but PC and
CYC changes. (states R273, R274, R275, R276.) -/
def Obligations.StackOperationsMoveOneByte : Prop :=
  (Plain ⟨0x48, 3, .pha⟩ fun s => { s with mem := s.mem.write (stackAddress s.sp) s.a, sp := s.sp - 1 }) ∧
  (Plain ⟨0x08, 3, .php⟩ fun s =>
    { s with mem := s.mem.write (stackAddress s.sp) (getStatus s.p ||| 0x10), sp := s.sp - 1 }) ∧
  (Plain ⟨0x68, 4, .pla⟩ fun s =>
    let v := s.mem.read (stackAddress (s.sp + 1))
    { s with a := v, p := nzOf v s.p, sp := s.sp + 1 }) ∧
  (Plain ⟨0x28, 4, .plp⟩ fun s =>
    let x : Byte := s.mem.read (stackAddress (s.sp + 1))
    { s with
      sp := s.sp + 1
      p := { n := x[7], v := x[6], b := if s.cfg.pullLoadsB then x[4] else s.p.b, d := x[3], i := x[2], z := x[1],
             c := x[0] } })

/-- Each flag operation, with its opcode byte, sets or clears its one flag and changes nothing else but PC and CYC;
each costs 2. (states R300, R301, R302, R303, R304, R305, R306.) -/
def Obligations.FlagOperationsTouchOneFlag : Prop :=
  (Plain ⟨0x18, 2, .clc⟩ fun s => { s with p := { s.p with c := false } }) ∧
  (Plain ⟨0x38, 2, .sec⟩ fun s => { s with p := { s.p with c := true } }) ∧
  (Plain ⟨0x58, 2, .cli⟩ fun s => { s with p := { s.p with i := false } }) ∧
  (Plain ⟨0x78, 2, .sei⟩ fun s => { s with p := { s.p with i := true } }) ∧
  (Plain ⟨0xD8, 2, .cld⟩ fun s => { s with p := { s.p with d := false } }) ∧
  (Plain ⟨0xF8, 2, .sed⟩ fun s => { s with p := { s.p with d := true } }) ∧
  (Plain ⟨0xB8, 2, .clv⟩ fun s => { s with p := { s.p with v := false } })

/-- The legal NOP and every informal NOP, with its opcode byte and operand bytes, completes and changes nothing but PC
and CYC; a form with a memory operand reads it only when NOP_READS_OPERAND, which only the device history can show,
and an AbsoluteX form costs one more on a page cross. An informal NOP exists only while its byte is in
INFORMAL_OPCODES. (states R307, R308.) -/
def Obligations.NopsOnlyAdvance : Prop :=
  (Plain ⟨0xEA, 2, .nop⟩ fun s => s) ∧ (∀ f ∈ nopOneByteForms, Plain f fun s => s) ∧
  (∀ (s : State) (b : Byte), ∀ f ∈ nopImmediateForms b,
    encode f.instr = [f.opcode, b] ∧
    exec f.instr s = .next { s with pc := pcPast f.instr s, cyc := cycAfter s f.cycles }) ∧
  (∀ (s : State) (b : Byte) (w : Word), ∀ f ∈ nopMemoryForms b w,
    encode f.instr = f.opcode :: f.target.bytes ∧
    exec f.instr s = .next
      { s with
        pc := pcPast f.instr s
        cyc := cycAfter s (f.cycles + (resolve f.target s).crossed.toNat)
        ppuLog := if s.cfg.nopReadsOperand = true ∧ inWindow (resolve f.target s).ea = true then
            .read (resolve f.target s).ea :: s.ppuLog
          else s.ppuLog }) ∧
  ∀ (c : Config), ∀ op ∈ nopOneByteForms.map (·.opcode) ++ (nopImmediateForms 0).map (·.opcode) ++
      (nopMemoryForms 0 0).map (·.opcode), op ∉ c.informalOpcodes → (decodeOpcode c op).isNone = true

/-- From any state a reset gives A, X, Y 0x00, I 1 and the other flags 0 (packed 0x24), SP RESET_SP, CYC RESET_CYCLES
(modulo 2^w for a counter of width w), FAULT none, and PC from the vector at 0xFFFC or ENTRY_PC, and leaves memory as
it stands; under the defaults SP is 0xFF and CYC 0. That RESET_CYCLES is stored modulo 2^w is the model's own
deduction (log 16), and that the device history and the configuration stay too is its choice (log 12). (from
10_state.md R34, R37, 70_reset_and_hazards.md R350, 92_eei_decisions.md D35, log 12, log 16.) -/
def Obligations.ResetSetsEveryRegister : Prop :=
  (∀ s : State, resetMachine s =
    { s with
      a := 0x00, x := 0x00, y := 0x00
      p := { n := false, v := false, b := false, d := false, i := true, z := false, c := false }
      sp := s.cfg.resetSp
      cyc := cycleValue s.cfg s.cfg.resetCycles
      fault := none
      pcSeeded := true
      pc := match s.cfg.entryPc with
        | .vector => wordOf (s.mem.read 0xFFFC) (s.mem.read 0xFFFD)
        | .address t => t }) ∧
  getStatus Flags.reset = 0x24 ∧ defaults.resetSp = 0xFF ∧ defaults.resetCycles = 0

/-- After loading up to 0x10000 bytes at an address, the cell k places after it holds byte k of the image, every cell
not covered keeps its byte, and nothing but memory changes. Addresses are modulo 0x10000: that an image past 0xFFFF
goes on at 0x0000 is the model's own deduction, since R351 does not say it, and so is that the cells under the device
window are loaded (log 17). (from 70_reset_and_hazards.md R351, 20_memory.md R50, R54, log 17.) -/
def Obligations.LoadedImageIsRead : Prop :=
  ∀ (s : State) (prg : List Byte) (at0 : Word), prg.length ≤ 0x10000 →
    (∀ k (h : k < prg.length), (loadRom prg at0 s).mem.read (at0 + BitVec.ofNat 16 k) = prg[k]) ∧
    (∀ a, (∀ k, k < prg.length → a ≠ at0 + BitVec.ofNat 16 k) → (loadRom prg at0 s).mem.read a = s.mem.read a) ∧
    loadRom prg at0 s = { s with mem := (loadRom prg at0 s).mem }

/-- If a cartridge is accepted, its header begins 4E 45 53 1A, byte 4 is 1 or 2, its PRG data are that many times
0x4000 bytes from file offset 16, and the load address plus their number is 0x10000; a file with another magic,
another bank count or too few bytes is rejected, and then there is no new state. (from 70_reset_and_hazards.md R353,
R354, R356.) -/
def Obligations.CartridgesEndAtTheTopOfMemory : Prop :=
  (∀ (file prg : List Byte) (at0 : Word), cartridgePrg file = .ok (prg, at0) →
      file.take 4 = [0x4E, 0x45, 0x53, 0x1A] ∧ (file.getD 4 0 = 1 ∨ file.getD 4 0 = 2) ∧
      prg.length = 0x4000 * (file.getD 4 0).toNat ∧ (∀ k, k < prg.length → prg[k]? = file[16 + k]?) ∧
      at0.toNat + prg.length = 0x10000) ∧
  ∀ (file : List Byte) (s : State),
    (file.take 4 ≠ [0x4E, 0x45, 0x53, 0x1A] ∨ (file.getD 4 0 ≠ 1 ∧ file.getD 4 0 ≠ 2) ∨
      file.length < 16 + 0x4000 * (file.getD 4 0).toNat) →
    ∃ e, loadCartridge file s = .error e

/-- A ready state that fetches an instruction offers a line with PC, the instruction's bytes, its mnemonic behind the
informal prefix, its operand text, the registers, the packed status byte, SP and (factor times CYC) modulo 341, all
from before the step; a state whose step does not complete offers no line. The texts and the columns are the model's
and the parameters' (log 9). (from 70_reset_and_hazards.md R362, R363, 92_eei_decisions.md D3, D31, D34, log 9.) -/
def Obligations.TraceShowsTheStateBeforeTheStep : Prop :=
  (∀ (s t : State), step s = .next t → ∃ i after,
      fetch s = .instruction i (encode i) after ∧
      traceLine s = some ⟨s.pc, encode i,
        (if i.row.opcode ∈ informalBytes then s.cfg.traceInformalPrefix else []) ++ mnemonicText i.row.operation,
        operandText i.row.operand s, s.a, s.x, s.y, getStatus s.p, s.sp,
        ((match s.cfg.traceDotsPerCycle with | .one => 1 | .three => 3) * s.cyc) % 341⟩) ∧
  ∀ s : State, (¬ ∃ t, step s = .next t) → traceLine s = none
end

