-- ==== Sys2Proof/Laws/Flags.lean ====
section
/-! SUPPORT. Which flags each flag computation may change. -/

namespace Sys2Proof.Machine

@[simp] theorem setNZ_keeps (v : Byte) (p : Flags) :
    (setNZ v p).c = p.c ∧ (setNZ v p).v = p.v ∧ (setNZ v p).i = p.i ∧ (setNZ v p).d = p.d ∧ (setNZ v p).b = p.b :=
  ⟨rfl, rfl, rfl, rfl, rfl⟩

@[simp] theorem aluCompare_keeps (r m : Byte) (p : Flags) :
    (aluCompare r m p).v = p.v ∧ (aluCompare r m p).i = p.i ∧ (aluCompare r m p).d = p.d ∧
      (aluCompare r m p).b = p.b :=
  ⟨rfl, rfl, rfl, rfl⟩

@[simp] theorem pullStatus_b (c : Config) (x : Byte) (p : Flags) (h : c.pullLoadsB = false) :
    (pullStatus c x p).b = p.b := by
  simp [pullStatus, h]

/-- A pulled byte that was pushed gives back every flag but `B`. -/
theorem pullStatus_pushedStatus (c : Config) (p q : Flags) :
    pullStatus c (pushedStatus p) q = { p with b := if c.pullLoadsB then true else q.b } := by
  obtain ⟨n, v, b, d, i, z, cc⟩ := p
  cases h : c.pullLoadsB <;> simp only [pullStatus, h] <;>
    (revert n v b d i z cc; cases q.b <;> decide)

end Sys2Proof.Machine
end

