-- ==== Sys2Proof/Laws/Memory.lean ====
section
/-! SUPPORT. The memory array: reads after writes and loads, and the canonical form kept by every memory operation. -/

namespace Sys2Proof.Machine

theorem Memory.lookup_of_forall_ne {m : Memory} {k : Nat} (h : ∀ c ∈ m, c.1 ≠ k) : m.lookup k = Memory.unlisted k := by
  induction m with
  | nil => rfl
  | cons c m ih => rw [lookup, if_neg (h c (by simp)), ih fun d hd => h d (by simp [hd])]

theorem Memory.mem_unlist_ne {m : Memory} {k : Nat} : ∀ c ∈ m.unlist k, c.1 ≠ k := by
  simp [unlist]

theorem Memory.lookup_unlist_of_ne (m : Memory) {j k : Nat} (h : j ≠ k) : (m.unlist k).lookup j = m.lookup j := by
  induction m with
  | nil => rfl
  | cons c m ih =>
    by_cases hc : c.1 = k
    · have : ¬ c.1 = j := by omega
      simpa [unlist, lookup, hc, this, h.symm] using ih
    · have : unlist (c :: m) k = c :: unlist m k := by simp [unlist, hc]
      rw [this, lookup, lookup, ih]

theorem Memory.lookup_place_self {m : Memory} {k : Nat} (v : Byte) (h : ∀ c ∈ m, c.1 ≠ k) :
    (Memory.place k v m).lookup k = v := by
  induction m with
  | nil => simp [place, lookup]
  | cons c m ih =>
    unfold place
    split
    · simp [lookup]
    · rw [lookup, if_neg (h c (by simp)), ih fun d hd => h d (by simp [hd])]

theorem Memory.lookup_place_of_ne (m : Memory) {j k : Nat} (v : Byte) (h : j ≠ k) :
    (Memory.place k v m).lookup j = m.lookup j := by
  induction m with
  | nil => simp [place, lookup, h.symm]
  | cons c m ih =>
    unfold place
    split
    · rw [lookup, if_neg (by simpa using h.symm)]
    · rw [lookup, lookup, ih]

@[simp] theorem Memory.lookup_store_self (m : Memory) (k : Nat) (v : Byte) : (m.store k v).lookup k = v := by
  unfold store
  split
  · rename_i h
    rw [lookup_of_forall_ne mem_unlist_ne, h]
  · exact lookup_place_self v mem_unlist_ne

theorem Memory.lookup_store_of_ne (m : Memory) {j k : Nat} (v : Byte) (h : j ≠ k) :
    (m.store k v).lookup j = m.lookup j := by
  unfold store
  split
  · exact lookup_unlist_of_ne m h
  · rw [lookup_place_of_ne _ v h, lookup_unlist_of_ne m h]

@[simp] theorem Memory.read_write_self (m : Memory) (a : Word) (v : Byte) : (m.write a v).read a = v :=
  lookup_store_self m a.toNat v

theorem Memory.read_write_of_ne (m : Memory) {a b : Word} (v : Byte) (h : b ≠ a) :
    (m.write a v).read b = m.read b :=
  lookup_store_of_ne m v fun e => h (BitVec.eq_of_toNat_eq e)

/-! The canonical form -/

theorem Memory.wfFrom_cons {k : Nat} {c : Host.Cell} {m : Memory} :
    Memory.wfFrom k (c :: m) = true ↔
      k ≤ c.1 ∧ c.1 < Config.memSize ∧ c.2 ≠ Memory.unlisted c.1 ∧ Memory.wfFrom (c.1 + 1) m = true := by
  simp [wfFrom, and_assoc]

theorem Memory.wfFrom_mono {j k : Nat} (h : j ≤ k) {m : Memory} (hm : Memory.wfFrom k m = true) :
    Memory.wfFrom j m = true := by
  cases m with
  | nil => rfl
  | cons c m =>
    rw [wfFrom_cons] at hm ⊢
    exact ⟨h.trans hm.1, hm.2⟩

theorem Memory.wfFrom_unlist {j : Nat} (k : Nat) {m : Memory} (hm : Memory.wfFrom j m = true) :
    Memory.wfFrom j (m.unlist k) = true := by
  induction m generalizing j with
  | nil => rfl
  | cons c m ih =>
    rw [wfFrom_cons] at hm
    have tail := ih hm.2.2.2
    by_cases hc : c.1 = k
    · have : unlist (c :: m) k = unlist m k := by simp [unlist, hc]
      rw [this]
      exact wfFrom_mono (by omega) tail
    · have : unlist (c :: m) k = c :: unlist m k := by simp [unlist, hc]
      rw [this, wfFrom_cons]
      exact ⟨hm.1, hm.2.1, hm.2.2.1, tail⟩

theorem Memory.wfFrom_place {j k : Nat} {v : Byte} {m : Memory} (hm : Memory.wfFrom j m = true) (hjk : j ≤ k)
    (hk : k < Config.memSize) (hv : v ≠ Memory.unlisted k) (h : ∀ c ∈ m, c.1 ≠ k) :
    Memory.wfFrom j (Memory.place k v m) = true := by
  induction m generalizing j with
  | nil => exact wfFrom_cons.mpr ⟨hjk, hk, hv, rfl⟩
  | cons c m ih =>
    rw [wfFrom_cons] at hm
    unfold place
    split
    · rename_i hlt
      exact wfFrom_cons.mpr ⟨hjk, hk, hv, wfFrom_cons.mpr ⟨hlt, hm.2⟩⟩
    · rename_i hge
      have hne := h c (by simp)
      exact wfFrom_cons.mpr ⟨hm.1, hm.2.1, hm.2.2.1,
        ih hm.2.2.2 (by omega) fun d hd => h d (by simp [hd])⟩

/-- A store keeps the canonical form. -/
theorem Memory.wf_store {m : Memory} (hm : m.wf = true) {k : Nat} (hk : k < Config.memSize) (v : Byte) :
    (m.store k v).wf = true := by
  unfold store
  split
  · exact wfFrom_unlist k hm
  · rename_i hv
    exact wfFrom_place (wfFrom_unlist k hm) (Nat.zero_le k) hk hv mem_unlist_ne

/-- A write keeps the canonical form. -/
theorem Memory.wf_write {m : Memory} (hm : m.wf = true) (a : Word) (v : Byte) : (m.write a v).wf = true :=
  wf_store hm a.isLt v

/-- A load keeps the canonical form. -/
theorem Memory.wf_load {m : Memory} (hm : m.wf = true) (a : Word) (bs : List Byte) : (m.load a bs).wf = true := by
  induction bs generalizing m a with
  | nil => exact hm
  | cons b bs ih => exact ih (wf_write hm a b) (a + 1)

end Sys2Proof.Machine
end

