-- ==== Sys2Proof/Laws/State.lean ====
section
/-! SUPPORT. One lemma per field per update of State. -/

namespace Sys2Proof.Machine

@[simp] theorem State.setA_a (s : State) (v : Byte) : (s.setA v).a = v := rfl
@[simp] theorem State.setA_x (s : State) (v : Byte) : (s.setA v).x = s.x := rfl
@[simp] theorem State.setA_y (s : State) (v : Byte) : (s.setA v).y = s.y := rfl
@[simp] theorem State.setA_sp (s : State) (v : Byte) : (s.setA v).sp = s.sp := rfl
@[simp] theorem State.setA_pc (s : State) (v : Byte) : (s.setA v).pc = s.pc := rfl
@[simp] theorem State.setA_p (s : State) (v : Byte) : (s.setA v).p = s.p := rfl
@[simp] theorem State.setA_cyc (s : State) (v : Byte) : (s.setA v).cyc = s.cyc := rfl
@[simp] theorem State.setA_fault (s : State) (v : Byte) : (s.setA v).fault = s.fault := rfl
@[simp] theorem State.setA_mem (s : State) (v : Byte) : (s.setA v).mem = s.mem := rfl
@[simp] theorem State.setA_pcSeeded (s : State) (v : Byte) : (s.setA v).pcSeeded = s.pcSeeded := rfl
@[simp] theorem State.setA_ppuLog (s : State) (v : Byte) : (s.setA v).ppuLog = s.ppuLog := rfl
@[simp] theorem State.setA_cfg (s : State) (v : Byte) : (s.setA v).cfg = s.cfg := rfl

@[simp] theorem State.setX_a (s : State) (v : Byte) : (s.setX v).a = s.a := rfl
@[simp] theorem State.setX_x (s : State) (v : Byte) : (s.setX v).x = v := rfl
@[simp] theorem State.setX_y (s : State) (v : Byte) : (s.setX v).y = s.y := rfl
@[simp] theorem State.setX_sp (s : State) (v : Byte) : (s.setX v).sp = s.sp := rfl
@[simp] theorem State.setX_pc (s : State) (v : Byte) : (s.setX v).pc = s.pc := rfl
@[simp] theorem State.setX_p (s : State) (v : Byte) : (s.setX v).p = s.p := rfl
@[simp] theorem State.setX_cyc (s : State) (v : Byte) : (s.setX v).cyc = s.cyc := rfl
@[simp] theorem State.setX_fault (s : State) (v : Byte) : (s.setX v).fault = s.fault := rfl
@[simp] theorem State.setX_mem (s : State) (v : Byte) : (s.setX v).mem = s.mem := rfl
@[simp] theorem State.setX_pcSeeded (s : State) (v : Byte) : (s.setX v).pcSeeded = s.pcSeeded := rfl
@[simp] theorem State.setX_ppuLog (s : State) (v : Byte) : (s.setX v).ppuLog = s.ppuLog := rfl
@[simp] theorem State.setX_cfg (s : State) (v : Byte) : (s.setX v).cfg = s.cfg := rfl

@[simp] theorem State.setY_a (s : State) (v : Byte) : (s.setY v).a = s.a := rfl
@[simp] theorem State.setY_x (s : State) (v : Byte) : (s.setY v).x = s.x := rfl
@[simp] theorem State.setY_y (s : State) (v : Byte) : (s.setY v).y = v := rfl
@[simp] theorem State.setY_sp (s : State) (v : Byte) : (s.setY v).sp = s.sp := rfl
@[simp] theorem State.setY_pc (s : State) (v : Byte) : (s.setY v).pc = s.pc := rfl
@[simp] theorem State.setY_p (s : State) (v : Byte) : (s.setY v).p = s.p := rfl
@[simp] theorem State.setY_cyc (s : State) (v : Byte) : (s.setY v).cyc = s.cyc := rfl
@[simp] theorem State.setY_fault (s : State) (v : Byte) : (s.setY v).fault = s.fault := rfl
@[simp] theorem State.setY_mem (s : State) (v : Byte) : (s.setY v).mem = s.mem := rfl
@[simp] theorem State.setY_pcSeeded (s : State) (v : Byte) : (s.setY v).pcSeeded = s.pcSeeded := rfl
@[simp] theorem State.setY_ppuLog (s : State) (v : Byte) : (s.setY v).ppuLog = s.ppuLog := rfl
@[simp] theorem State.setY_cfg (s : State) (v : Byte) : (s.setY v).cfg = s.cfg := rfl

@[simp] theorem State.setSp_a (s : State) (v : Byte) : (s.setSp v).a = s.a := rfl
@[simp] theorem State.setSp_x (s : State) (v : Byte) : (s.setSp v).x = s.x := rfl
@[simp] theorem State.setSp_y (s : State) (v : Byte) : (s.setSp v).y = s.y := rfl
@[simp] theorem State.setSp_sp (s : State) (v : Byte) : (s.setSp v).sp = v := rfl
@[simp] theorem State.setSp_pc (s : State) (v : Byte) : (s.setSp v).pc = s.pc := rfl
@[simp] theorem State.setSp_p (s : State) (v : Byte) : (s.setSp v).p = s.p := rfl
@[simp] theorem State.setSp_cyc (s : State) (v : Byte) : (s.setSp v).cyc = s.cyc := rfl
@[simp] theorem State.setSp_fault (s : State) (v : Byte) : (s.setSp v).fault = s.fault := rfl
@[simp] theorem State.setSp_mem (s : State) (v : Byte) : (s.setSp v).mem = s.mem := rfl
@[simp] theorem State.setSp_pcSeeded (s : State) (v : Byte) : (s.setSp v).pcSeeded = s.pcSeeded := rfl
@[simp] theorem State.setSp_ppuLog (s : State) (v : Byte) : (s.setSp v).ppuLog = s.ppuLog := rfl
@[simp] theorem State.setSp_cfg (s : State) (v : Byte) : (s.setSp v).cfg = s.cfg := rfl

@[simp] theorem State.setPc_a (s : State) (v : Word) : (s.setPc v).a = s.a := rfl
@[simp] theorem State.setPc_x (s : State) (v : Word) : (s.setPc v).x = s.x := rfl
@[simp] theorem State.setPc_y (s : State) (v : Word) : (s.setPc v).y = s.y := rfl
@[simp] theorem State.setPc_sp (s : State) (v : Word) : (s.setPc v).sp = s.sp := rfl
@[simp] theorem State.setPc_pc (s : State) (v : Word) : (s.setPc v).pc = v := rfl
@[simp] theorem State.setPc_p (s : State) (v : Word) : (s.setPc v).p = s.p := rfl
@[simp] theorem State.setPc_cyc (s : State) (v : Word) : (s.setPc v).cyc = s.cyc := rfl
@[simp] theorem State.setPc_fault (s : State) (v : Word) : (s.setPc v).fault = s.fault := rfl
@[simp] theorem State.setPc_mem (s : State) (v : Word) : (s.setPc v).mem = s.mem := rfl
@[simp] theorem State.setPc_pcSeeded (s : State) (v : Word) : (s.setPc v).pcSeeded = s.pcSeeded := rfl
@[simp] theorem State.setPc_ppuLog (s : State) (v : Word) : (s.setPc v).ppuLog = s.ppuLog := rfl
@[simp] theorem State.setPc_cfg (s : State) (v : Word) : (s.setPc v).cfg = s.cfg := rfl

@[simp] theorem State.setP_a (s : State) (v : Flags) : (s.setP v).a = s.a := rfl
@[simp] theorem State.setP_x (s : State) (v : Flags) : (s.setP v).x = s.x := rfl
@[simp] theorem State.setP_y (s : State) (v : Flags) : (s.setP v).y = s.y := rfl
@[simp] theorem State.setP_sp (s : State) (v : Flags) : (s.setP v).sp = s.sp := rfl
@[simp] theorem State.setP_pc (s : State) (v : Flags) : (s.setP v).pc = s.pc := rfl
@[simp] theorem State.setP_p (s : State) (v : Flags) : (s.setP v).p = v := rfl
@[simp] theorem State.setP_cyc (s : State) (v : Flags) : (s.setP v).cyc = s.cyc := rfl
@[simp] theorem State.setP_fault (s : State) (v : Flags) : (s.setP v).fault = s.fault := rfl
@[simp] theorem State.setP_mem (s : State) (v : Flags) : (s.setP v).mem = s.mem := rfl
@[simp] theorem State.setP_pcSeeded (s : State) (v : Flags) : (s.setP v).pcSeeded = s.pcSeeded := rfl
@[simp] theorem State.setP_ppuLog (s : State) (v : Flags) : (s.setP v).ppuLog = s.ppuLog := rfl
@[simp] theorem State.setP_cfg (s : State) (v : Flags) : (s.setP v).cfg = s.cfg := rfl

@[simp] theorem State.setCyc_a (s : State) (v : Nat) : (s.setCyc v).a = s.a := rfl
@[simp] theorem State.setCyc_x (s : State) (v : Nat) : (s.setCyc v).x = s.x := rfl
@[simp] theorem State.setCyc_y (s : State) (v : Nat) : (s.setCyc v).y = s.y := rfl
@[simp] theorem State.setCyc_sp (s : State) (v : Nat) : (s.setCyc v).sp = s.sp := rfl
@[simp] theorem State.setCyc_pc (s : State) (v : Nat) : (s.setCyc v).pc = s.pc := rfl
@[simp] theorem State.setCyc_p (s : State) (v : Nat) : (s.setCyc v).p = s.p := rfl
@[simp] theorem State.setCyc_cyc (s : State) (v : Nat) : (s.setCyc v).cyc = v := rfl
@[simp] theorem State.setCyc_fault (s : State) (v : Nat) : (s.setCyc v).fault = s.fault := rfl
@[simp] theorem State.setCyc_mem (s : State) (v : Nat) : (s.setCyc v).mem = s.mem := rfl
@[simp] theorem State.setCyc_pcSeeded (s : State) (v : Nat) : (s.setCyc v).pcSeeded = s.pcSeeded := rfl
@[simp] theorem State.setCyc_ppuLog (s : State) (v : Nat) : (s.setCyc v).ppuLog = s.ppuLog := rfl
@[simp] theorem State.setCyc_cfg (s : State) (v : Nat) : (s.setCyc v).cfg = s.cfg := rfl

@[simp] theorem State.setFault_a (s : State) (v : Option DecodeError) : (s.setFault v).a = s.a := rfl
@[simp] theorem State.setFault_x (s : State) (v : Option DecodeError) : (s.setFault v).x = s.x := rfl
@[simp] theorem State.setFault_y (s : State) (v : Option DecodeError) : (s.setFault v).y = s.y := rfl
@[simp] theorem State.setFault_sp (s : State) (v : Option DecodeError) : (s.setFault v).sp = s.sp := rfl
@[simp] theorem State.setFault_pc (s : State) (v : Option DecodeError) : (s.setFault v).pc = s.pc := rfl
@[simp] theorem State.setFault_p (s : State) (v : Option DecodeError) : (s.setFault v).p = s.p := rfl
@[simp] theorem State.setFault_cyc (s : State) (v : Option DecodeError) : (s.setFault v).cyc = s.cyc := rfl
@[simp] theorem State.setFault_fault (s : State) (v : Option DecodeError) : (s.setFault v).fault = v := rfl
@[simp] theorem State.setFault_mem (s : State) (v : Option DecodeError) : (s.setFault v).mem = s.mem := rfl
@[simp] theorem State.setFault_pcSeeded (s : State) (v : Option DecodeError) : (s.setFault v).pcSeeded = s.pcSeeded := rfl
@[simp] theorem State.setFault_ppuLog (s : State) (v : Option DecodeError) : (s.setFault v).ppuLog = s.ppuLog := rfl
@[simp] theorem State.setFault_cfg (s : State) (v : Option DecodeError) : (s.setFault v).cfg = s.cfg := rfl

@[simp] theorem State.setMem_a (s : State) (v : Memory) : (s.setMem v).a = s.a := rfl
@[simp] theorem State.setMem_x (s : State) (v : Memory) : (s.setMem v).x = s.x := rfl
@[simp] theorem State.setMem_y (s : State) (v : Memory) : (s.setMem v).y = s.y := rfl
@[simp] theorem State.setMem_sp (s : State) (v : Memory) : (s.setMem v).sp = s.sp := rfl
@[simp] theorem State.setMem_pc (s : State) (v : Memory) : (s.setMem v).pc = s.pc := rfl
@[simp] theorem State.setMem_p (s : State) (v : Memory) : (s.setMem v).p = s.p := rfl
@[simp] theorem State.setMem_cyc (s : State) (v : Memory) : (s.setMem v).cyc = s.cyc := rfl
@[simp] theorem State.setMem_fault (s : State) (v : Memory) : (s.setMem v).fault = s.fault := rfl
@[simp] theorem State.setMem_mem (s : State) (v : Memory) : (s.setMem v).mem = v := rfl
@[simp] theorem State.setMem_pcSeeded (s : State) (v : Memory) : (s.setMem v).pcSeeded = s.pcSeeded := rfl
@[simp] theorem State.setMem_ppuLog (s : State) (v : Memory) : (s.setMem v).ppuLog = s.ppuLog := rfl
@[simp] theorem State.setMem_cfg (s : State) (v : Memory) : (s.setMem v).cfg = s.cfg := rfl

@[simp] theorem State.setPcSeeded_a (s : State) (v : Bool) : (s.setPcSeeded v).a = s.a := rfl
@[simp] theorem State.setPcSeeded_x (s : State) (v : Bool) : (s.setPcSeeded v).x = s.x := rfl
@[simp] theorem State.setPcSeeded_y (s : State) (v : Bool) : (s.setPcSeeded v).y = s.y := rfl
@[simp] theorem State.setPcSeeded_sp (s : State) (v : Bool) : (s.setPcSeeded v).sp = s.sp := rfl
@[simp] theorem State.setPcSeeded_pc (s : State) (v : Bool) : (s.setPcSeeded v).pc = s.pc := rfl
@[simp] theorem State.setPcSeeded_p (s : State) (v : Bool) : (s.setPcSeeded v).p = s.p := rfl
@[simp] theorem State.setPcSeeded_cyc (s : State) (v : Bool) : (s.setPcSeeded v).cyc = s.cyc := rfl
@[simp] theorem State.setPcSeeded_fault (s : State) (v : Bool) : (s.setPcSeeded v).fault = s.fault := rfl
@[simp] theorem State.setPcSeeded_mem (s : State) (v : Bool) : (s.setPcSeeded v).mem = s.mem := rfl
@[simp] theorem State.setPcSeeded_pcSeeded (s : State) (v : Bool) : (s.setPcSeeded v).pcSeeded = v := rfl
@[simp] theorem State.setPcSeeded_ppuLog (s : State) (v : Bool) : (s.setPcSeeded v).ppuLog = s.ppuLog := rfl
@[simp] theorem State.setPcSeeded_cfg (s : State) (v : Bool) : (s.setPcSeeded v).cfg = s.cfg := rfl

@[simp] theorem State.setPpuLog_a (s : State) (v : List PpuEvent) : (s.setPpuLog v).a = s.a := rfl
@[simp] theorem State.setPpuLog_x (s : State) (v : List PpuEvent) : (s.setPpuLog v).x = s.x := rfl
@[simp] theorem State.setPpuLog_y (s : State) (v : List PpuEvent) : (s.setPpuLog v).y = s.y := rfl
@[simp] theorem State.setPpuLog_sp (s : State) (v : List PpuEvent) : (s.setPpuLog v).sp = s.sp := rfl
@[simp] theorem State.setPpuLog_pc (s : State) (v : List PpuEvent) : (s.setPpuLog v).pc = s.pc := rfl
@[simp] theorem State.setPpuLog_p (s : State) (v : List PpuEvent) : (s.setPpuLog v).p = s.p := rfl
@[simp] theorem State.setPpuLog_cyc (s : State) (v : List PpuEvent) : (s.setPpuLog v).cyc = s.cyc := rfl
@[simp] theorem State.setPpuLog_fault (s : State) (v : List PpuEvent) : (s.setPpuLog v).fault = s.fault := rfl
@[simp] theorem State.setPpuLog_mem (s : State) (v : List PpuEvent) : (s.setPpuLog v).mem = s.mem := rfl
@[simp] theorem State.setPpuLog_pcSeeded (s : State) (v : List PpuEvent) : (s.setPpuLog v).pcSeeded = s.pcSeeded := rfl
@[simp] theorem State.setPpuLog_ppuLog (s : State) (v : List PpuEvent) : (s.setPpuLog v).ppuLog = v := rfl
@[simp] theorem State.setPpuLog_cfg (s : State) (v : List PpuEvent) : (s.setPpuLog v).cfg = s.cfg := rfl

end Sys2Proof.Machine
end

