-- ==== Sys2Proof/Laws/Ops.lean ====
section
/-! SUPPORT. What each named operation of Sys2Proof/Machine/Ops.lean does, said once. -/

namespace Sys2Proof.Machine

/-! Bus accesses -/

theorem memRead_plain {a : Word} (h : inWindow a = false) (s : State) : memRead a s = (s.mem.read a, s) := by
  simp [memRead, h]

theorem memRead_window {a : Word} (h : inWindow a = true) (s : State) :
    memRead a s = (Config.ppuAnswer s.ppuLog a, s.setPpuLog (.read a :: s.ppuLog)) := by
  simp [memRead, h]

theorem memWrite_plain {a : Word} (h : inWindow a = false) (v : Byte) (s : State) :
    memWrite a v s = s.setMem (s.mem.write a v) := by
  simp [memWrite, h]

theorem memWrite_window {a : Word} (h : inWindow a = true) (v : Byte) (s : State) :
    memWrite a v s = s.setPpuLog (.write a v :: s.ppuLog) := by
  simp [memWrite, h]

/-- A read changes the device history only. -/
theorem memRead_after (a : Word) (s : State) : (memRead a s).2 = s.setPpuLog (memRead a s).2.ppuLog := by
  cases h : inWindow a
  · rw [memRead_plain h]; rfl
  · rw [memRead_window h]; rfl

/-- The history after a read. -/
theorem memRead_ppuLog (a : Word) (s : State) :
    (memRead a s).2.ppuLog = if inWindow a then .read a :: s.ppuLog else s.ppuLog := by
  cases h : inWindow a
  · rw [memRead_plain h]; simp
  · rw [memRead_window h]; simp

/-- A read depends on the memory array and the history only. -/
theorem memRead_value_congr (a : Word) {s t : State} (hm : t.mem = s.mem) (hl : t.ppuLog = s.ppuLog) :
    (memRead a t).1 = (memRead a s).1 := by
  cases h : inWindow a
  · rw [memRead_plain h, memRead_plain h, hm]
  · rw [memRead_window h, memRead_window h, hl]

@[simp] theorem memRead_a (a : Word) (s : State) : (memRead a s).2.a = s.a := by
  rw [memRead_after]; rfl
@[simp] theorem memRead_x (a : Word) (s : State) : (memRead a s).2.x = s.x := by
  rw [memRead_after]; rfl
@[simp] theorem memRead_y (a : Word) (s : State) : (memRead a s).2.y = s.y := by
  rw [memRead_after]; rfl
@[simp] theorem memRead_sp (a : Word) (s : State) : (memRead a s).2.sp = s.sp := by
  rw [memRead_after]; rfl
@[simp] theorem memRead_pc (a : Word) (s : State) : (memRead a s).2.pc = s.pc := by
  rw [memRead_after]; rfl
@[simp] theorem memRead_p (a : Word) (s : State) : (memRead a s).2.p = s.p := by
  rw [memRead_after]; rfl
@[simp] theorem memRead_cyc (a : Word) (s : State) : (memRead a s).2.cyc = s.cyc := by
  rw [memRead_after]; rfl
@[simp] theorem memRead_fault (a : Word) (s : State) : (memRead a s).2.fault = s.fault := by
  rw [memRead_after]; rfl
@[simp] theorem memRead_mem (a : Word) (s : State) : (memRead a s).2.mem = s.mem := by
  rw [memRead_after]; rfl
@[simp] theorem memRead_pcSeeded (a : Word) (s : State) : (memRead a s).2.pcSeeded = s.pcSeeded := by
  rw [memRead_after]; rfl
@[simp] theorem memRead_cfg (a : Word) (s : State) : (memRead a s).2.cfg = s.cfg := by
  rw [memRead_after]; rfl

/-- A write changes the memory array and the device history only. -/
theorem memWrite_after (a : Word) (v : Byte) (s : State) :
    memWrite a v s = (s.setMem (memWrite a v s).mem).setPpuLog (memWrite a v s).ppuLog := by
  cases h : inWindow a
  · rw [memWrite_plain h]; rfl
  · rw [memWrite_window h]; rfl

/-- The array after a write. -/
theorem memWrite_mem (a : Word) (v : Byte) (s : State) :
    (memWrite a v s).mem = if inWindow a then s.mem else s.mem.write a v := by
  cases h : inWindow a
  · rw [memWrite_plain h]; simp
  · rw [memWrite_window h]; simp

/-- The history after a write. -/
theorem memWrite_ppuLog (a : Word) (v : Byte) (s : State) :
    (memWrite a v s).ppuLog = if inWindow a then .write a v :: s.ppuLog else s.ppuLog := by
  cases h : inWindow a
  · rw [memWrite_plain h]; simp
  · rw [memWrite_window h]; simp

@[simp] theorem memWrite_a (a : Word) (v : Byte) (s : State) : (memWrite a v s).a = s.a := by
  rw [memWrite_after]; rfl
@[simp] theorem memWrite_x (a : Word) (v : Byte) (s : State) : (memWrite a v s).x = s.x := by
  rw [memWrite_after]; rfl
@[simp] theorem memWrite_y (a : Word) (v : Byte) (s : State) : (memWrite a v s).y = s.y := by
  rw [memWrite_after]; rfl
@[simp] theorem memWrite_sp (a : Word) (v : Byte) (s : State) : (memWrite a v s).sp = s.sp := by
  rw [memWrite_after]; rfl
@[simp] theorem memWrite_pc (a : Word) (v : Byte) (s : State) : (memWrite a v s).pc = s.pc := by
  rw [memWrite_after]; rfl
@[simp] theorem memWrite_p (a : Word) (v : Byte) (s : State) : (memWrite a v s).p = s.p := by
  rw [memWrite_after]; rfl
@[simp] theorem memWrite_cyc (a : Word) (v : Byte) (s : State) : (memWrite a v s).cyc = s.cyc := by
  rw [memWrite_after]; rfl
@[simp] theorem memWrite_fault (a : Word) (v : Byte) (s : State) : (memWrite a v s).fault = s.fault := by
  rw [memWrite_after]; rfl
@[simp] theorem memWrite_pcSeeded (a : Word) (v : Byte) (s : State) : (memWrite a v s).pcSeeded = s.pcSeeded := by
  rw [memWrite_after]; rfl
@[simp] theorem memWrite_cfg (a : Word) (v : Byte) (s : State) : (memWrite a v s).cfg = s.cfg := by
  rw [memWrite_after]; rfl

/-! The stack -/

theorem stackAddress_toNat (sp : Byte) : (stackAddress sp).toNat = 0x100 + sp.toNat := by
  have := sp.isLt
  simp only [stackAddress, zext, BitVec.toNat_add, BitVec.toNat_setWidth]
  have : (0x0100 : Word).toNat = 0x100 := rfl
  omega

/-- The stack page is outside the device window. -/
@[simp] theorem inWindow_stackAddress (sp : Byte) : inWindow (stackAddress sp) = false := by
  have h := stackAddress_toNat sp
  have := sp.isLt
  simp only [inWindow, h, Bool.or_eq_false_iff, Bool.and_eq_false_imp, decide_eq_true_eq, decide_eq_false_iff_not]
  omega

theorem stackAddress_injective {a b : Byte} (h : stackAddress a = stackAddress b) : a = b := by
  have := congrArg BitVec.toNat h
  rw [stackAddress_toNat, stackAddress_toNat] at this
  exact BitVec.eq_of_toNat_eq (by omega)

/-- A push writes its byte and decrements `SP`. -/
theorem push_eq (v : Byte) (s : State) :
    push v s = { s with mem := s.mem.write (stackAddress s.sp) v, sp := s.sp - 1 } := by
  rw [push, memWrite_plain (inWindow_stackAddress s.sp)]
  rfl

/-- A pop increments `SP` and reads the byte there. -/
theorem pop_eq (s : State) :
    pop s = (s.mem.read (stackAddress (s.sp + 1)), { s with sp := s.sp + 1 }) := by
  rw [pop, memRead_plain (inWindow_stackAddress _)]
  rfl

/-- A stack page byte never lies in the page of the vectors. -/
theorem stackAddress_ne_of_high {a : Word} (h : 0x200 ≤ a.toNat) (sp : Byte) : a ≠ stackAddress sp := by
  intro e
  have := congrArg BitVec.toNat e
  have := sp.isLt
  rw [stackAddress_toNat] at *
  omega

/-! The software trap -/

/-- Taking the trap, said once: three pushes, `I` set, `PC` from the vector. -/
theorem takeTrap_eq (s : State) :
    takeTrap s =
      { s with
        mem := ((s.mem.write (stackAddress s.sp) (highByte (s.pc + BitVec.ofNat 16 s.cfg.brkReturnOffset.val))).write
            (stackAddress (s.sp - 1)) (lowByte (s.pc + BitVec.ofNat 16 s.cfg.brkReturnOffset.val))).write
            (stackAddress (s.sp - 1 - 1)) (pushedStatus s.p)
        sp := s.sp - 1 - 1 - 1
        p := { s.p with i := true }
        pc := wordOf (s.mem.read 0xFFFE) (s.mem.read 0xFFFF) } := by
  have n1 := fun sp => stackAddress_ne_of_high (a := 0xFFFE) (by decide) sp
  have n2 := fun sp => stackAddress_ne_of_high (a := 0xFFFF) (by decide) sp
  have w1 : inWindow 0xFFFE = false := by decide
  have w2 : inWindow 0xFFFF = false := by decide
  have e : (0xFFFE : Word) + 1 = 0xFFFF := by decide
  simp only [takeTrap, push_eq, memRead16, e, memRead_plain w1, memRead_plain w2, State.setP, State.setPc,
    Memory.read_write_of_ne _ _ (n1 _), Memory.read_write_of_ne _ _ (n2 _)]

/-- Returning from the trap, said once: the status, then `PC`, from three pops. -/
theorem returnFromTrap_eq (s : State) :
    returnFromTrap s =
      { s with
        p := pullStatus s.cfg (s.mem.read (stackAddress (s.sp + 1))) s.p
        pc := wordOf (s.mem.read (stackAddress (s.sp + 1 + 1))) (s.mem.read (stackAddress (s.sp + 1 + 1 + 1)))
        sp := s.sp + 1 + 1 + 1 } := by
  simp only [returnFromTrap, pop_eq, State.setP, State.setPc]

/-! Cost and advance -/

@[simp] theorem charge_eq (n : Nat) (s : State) : charge n s = { s with cyc := cycleValue s.cfg (s.cyc + n) } := rfl

@[simp] theorem advance_eq (size cost : Nat) (s : State) :
    advance size cost s = { s with pc := s.pc + BitVec.ofNat 16 size, cyc := cycleValue s.cfg (s.cyc + cost) } := rfl

/-- A stored counter value is below the bound of a bounded counter. -/
theorem cycleValue_lt {c : Config} {w : Nat} (h : c.cycleCounterWidth = some w) (n : Nat) : cycleValue c n < 2 ^ w := by
  rw [cycleValue, h]
  exact Nat.mod_lt _ (Nat.two_pow_pos w)

end Sys2Proof.Machine
end

