-- ==== Sys2Proof/Laws/Operands.lean ====
section
/-! SUPPORT. What resolving and reading an operand may change, and the instruction shapes as equations. -/

namespace Sys2Proof.Machine

/-- Reading a pointer changes the device history only. -/
theorem readPointer_after (p : Byte) (s : State) :
    (readPointer p s).2 = s.setPpuLog (readPointer p s).2.ppuLog := by
  simp only [readPointer]
  rw [memRead_after _ (memRead _ _).2, memRead_after (zext p) s]
  rfl

/-- Resolving an operand changes the device history only. -/
theorem resolve_after (m : MemOperand) (s : State) : (resolve m s).after = s.setPpuLog (resolve m s).after.ppuLog := by
  cases m with
  | izx z => exact readPointer_after (z + s.x) s
  | izy z => exact readPointer_after z s
  | zp z => rfl
  | zpx z => rfl
  | zpy z => rfl
  | abs w => rfl
  | abx w => rfl
  | aby w => rfl

/-- Reading an operand changes the device history only. -/
theorem readOperand_after (src : Source) (s : State) :
    (readOperand src s).after = s.setPpuLog (readOperand src s).after.ppuLog := by
  cases src with
  | imm v => rfl
  | mem m =>
    simp only [readOperand]
    rw [memRead_after _ (resolve m s).after, resolve_after m s]
    rfl

@[simp] theorem resolve_a (m : MemOperand) (s : State) : (resolve m s).after.a = s.a := by
  rw [resolve_after]; rfl
@[simp] theorem resolve_x (m : MemOperand) (s : State) : (resolve m s).after.x = s.x := by
  rw [resolve_after]; rfl
@[simp] theorem resolve_y (m : MemOperand) (s : State) : (resolve m s).after.y = s.y := by
  rw [resolve_after]; rfl
@[simp] theorem resolve_sp (m : MemOperand) (s : State) : (resolve m s).after.sp = s.sp := by
  rw [resolve_after]; rfl
@[simp] theorem resolve_pc (m : MemOperand) (s : State) : (resolve m s).after.pc = s.pc := by
  rw [resolve_after]; rfl
@[simp] theorem resolve_p (m : MemOperand) (s : State) : (resolve m s).after.p = s.p := by
  rw [resolve_after]; rfl
@[simp] theorem resolve_cyc (m : MemOperand) (s : State) : (resolve m s).after.cyc = s.cyc := by
  rw [resolve_after]; rfl
@[simp] theorem resolve_fault (m : MemOperand) (s : State) : (resolve m s).after.fault = s.fault := by
  rw [resolve_after]; rfl
@[simp] theorem resolve_mem (m : MemOperand) (s : State) : (resolve m s).after.mem = s.mem := by
  rw [resolve_after]; rfl
@[simp] theorem resolve_pcSeeded (m : MemOperand) (s : State) : (resolve m s).after.pcSeeded = s.pcSeeded := by
  rw [resolve_after]; rfl
@[simp] theorem resolve_cfg (m : MemOperand) (s : State) : (resolve m s).after.cfg = s.cfg := by
  rw [resolve_after]; rfl

@[simp] theorem readOperand_a (src : Source) (s : State) : (readOperand src s).after.a = s.a := by
  rw [readOperand_after]; rfl
@[simp] theorem readOperand_x (src : Source) (s : State) : (readOperand src s).after.x = s.x := by
  rw [readOperand_after]; rfl
@[simp] theorem readOperand_y (src : Source) (s : State) : (readOperand src s).after.y = s.y := by
  rw [readOperand_after]; rfl
@[simp] theorem readOperand_sp (src : Source) (s : State) : (readOperand src s).after.sp = s.sp := by
  rw [readOperand_after]; rfl
@[simp] theorem readOperand_pc (src : Source) (s : State) : (readOperand src s).after.pc = s.pc := by
  rw [readOperand_after]; rfl
@[simp] theorem readOperand_p (src : Source) (s : State) : (readOperand src s).after.p = s.p := by
  rw [readOperand_after]; rfl
@[simp] theorem readOperand_cyc (src : Source) (s : State) : (readOperand src s).after.cyc = s.cyc := by
  rw [readOperand_after]; rfl
@[simp] theorem readOperand_fault (src : Source) (s : State) : (readOperand src s).after.fault = s.fault := by
  rw [readOperand_after]; rfl
@[simp] theorem readOperand_mem (src : Source) (s : State) : (readOperand src s).after.mem = s.mem := by
  rw [readOperand_after]; rfl
@[simp] theorem readOperand_pcSeeded (src : Source) (s : State) : (readOperand src s).after.pcSeeded = s.pcSeeded := by
  rw [readOperand_after]; rfl
@[simp] theorem readOperand_cfg (src : Source) (s : State) : (readOperand src s).after.cfg = s.cfg := by
  rw [readOperand_after]; rfl

end Sys2Proof.Machine
end

