-- ==== Sys2Proof/Laws/Keeps.lean ====
section
/-! SUPPORT. What every part of a step keeps, as one relation closed under composition: each shared operation and each
instruction shape has it, so a property of every step is a case split over the instructions. -/

namespace Sys2Proof.Machine

/-- What an operation from `s` to `t` keeps, whatever it does. -/
structure Keeps (s t : State) : Prop where
  cfg : t.cfg = s.cfg
  fault : t.fault = s.fault
  pcSeeded : t.pcSeeded = s.pcSeeded
  canonical : s.mem.wf = true → t.mem.wf = true
  cells : ∀ a, inWindow a = true → t.mem.read a = s.mem.read a
  history : ∃ added : List PpuEvent, t.ppuLog = added ++ s.ppuLog ∧ ∀ e ∈ added, inWindow (ppuEventAddress e) = true
  cycles : ∀ w, s.cfg.cycleCounterWidth = some w → s.cyc < 2 ^ w → t.cyc < 2 ^ w
  breakFlag : s.cfg.pullLoadsB = false → t.p.b = s.p.b

theorem Keeps.refl (s : State) : Keeps s s :=
  ⟨rfl, rfl, rfl, id, fun _ _ => rfl, ⟨[], rfl, by simp⟩, fun _ _ h => h, fun _ => rfl⟩

theorem Keeps.trans {s t u : State} (h : Keeps s t) (k : Keeps t u) : Keeps s u where
  cfg := k.cfg.trans h.cfg
  fault := k.fault.trans h.fault
  pcSeeded := k.pcSeeded.trans h.pcSeeded
  canonical := k.canonical ∘ h.canonical
  cells a ha := (k.cells a ha).trans (h.cells a ha)
  history := by
    obtain ⟨l, hl, hw⟩ := h.history
    obtain ⟨m, hm, hv⟩ := k.history
    refine ⟨m ++ l, by simp [hm, hl], fun e he => ?_⟩
    rcases List.mem_append.mp he with he | he
    · exact hv e he
    · exact hw e he
  cycles w hw hs := k.cycles w (by rw [h.cfg]; exact hw) (h.cycles w hw hs)
  breakFlag hb := (k.breakFlag (by rw [h.cfg]; exact hb)).trans (h.breakFlag hb)

/-- An update of registers, `PC` and flags other than `B`. -/
theorem Keeps.registers (s : State) (a x y sp : Byte) (pc : Word) (p : Flags) (hb : p.b = s.p.b) :
    Keeps s { s with a := a, x := x, y := y, sp := sp, pc := pc, p := p } :=
  ⟨rfl, rfl, rfl, id, fun _ _ => rfl, ⟨[], rfl, by simp⟩, fun _ _ h => h, fun _ => hb⟩

theorem Keeps.setA (s : State) (v : Byte) : Keeps s (s.setA v) := .registers s v s.x s.y s.sp s.pc s.p rfl
theorem Keeps.setX (s : State) (v : Byte) : Keeps s (s.setX v) := .registers s s.a v s.y s.sp s.pc s.p rfl
theorem Keeps.setY (s : State) (v : Byte) : Keeps s (s.setY v) := .registers s s.a s.x v s.sp s.pc s.p rfl
theorem Keeps.setSp (s : State) (v : Byte) : Keeps s (s.setSp v) := .registers s s.a s.x s.y v s.pc s.p rfl
theorem Keeps.setPc (s : State) (t : Word) : Keeps s (s.setPc t) := .registers s s.a s.x s.y s.sp t s.p rfl
theorem Keeps.setP (s : State) {p : Flags} (hb : p.b = s.p.b) : Keeps s (s.setP p) :=
  .registers s s.a s.x s.y s.sp s.pc p hb

theorem Keeps.memRead (a : Word) (s : State) : Keeps s (memRead a s).2 where
  cfg := by simp
  fault := by simp
  pcSeeded := by simp
  canonical := by simp
  cells := by simp
  history := by
    rw [memRead_ppuLog]
    split
    · rename_i h
      exact ⟨[.read a], rfl, by simpa [ppuEventAddress] using h⟩
    · exact ⟨[], rfl, by simp⟩
  cycles := by simp
  breakFlag := by simp

theorem Keeps.memWrite (a : Word) (v : Byte) (s : State) : Keeps s (memWrite a v s) where
  cfg := by simp
  fault := by simp
  pcSeeded := by simp
  canonical h := by
    rw [memWrite_mem]
    split
    · exact h
    · exact Memory.wf_write h a v
  cells b hb := by
    rw [memWrite_mem]
    split
    · rfl
    · rename_i h
      exact Memory.read_write_of_ne _ _ fun e => h (e ▸ hb)
  history := by
    rw [memWrite_ppuLog]
    split
    · rename_i h
      exact ⟨[.write a v], rfl, by simpa [ppuEventAddress] using h⟩
    · exact ⟨[], rfl, by simp⟩
  cycles := by simp
  breakFlag := by simp

theorem Keeps.memRead16 (a : Word) (s : State) : Keeps s (memRead16 a s).2 :=
  (Keeps.memRead a s).trans (Keeps.memRead (a + 1) _)

theorem Keeps.push (v : Byte) (s : State) : Keeps s (push v s) := (Keeps.memWrite _ v s).trans (Keeps.setSp _ _)

theorem Keeps.pop (s : State) : Keeps s (pop s).2 := (Keeps.setSp s _).trans (Keeps.memRead _ _)

theorem Keeps.pullStatus (x : Byte) (s : State) : Keeps s (s.setP (pullStatus s.cfg x s.p)) where
  cfg := rfl
  fault := rfl
  pcSeeded := rfl
  canonical := id
  cells _ _ := rfl
  history := ⟨[], rfl, by simp⟩
  cycles _ _ h := h
  breakFlag h := pullStatus_b s.cfg x s.p h

theorem Keeps.charge (n : Nat) (s : State) : Keeps s (charge n s) where
  cfg := rfl
  fault := rfl
  pcSeeded := rfl
  canonical := id
  cells _ _ := rfl
  history := ⟨[], rfl, by simp⟩
  cycles _ h _ := cycleValue_lt h _
  breakFlag _ := rfl

theorem Keeps.advance (size cost : Nat) (s : State) : Keeps s (advance size cost s) :=
  (Keeps.setPc s _).trans (Keeps.charge cost _)

theorem Keeps.takeTrap (s : State) : Keeps s (takeTrap s) := by
  simp only [Machine.takeTrap]
  refine Keeps.trans ?_ (Keeps.setPc _ _)
  refine Keeps.trans ?_ (Keeps.memRead16 _ _)
  refine Keeps.trans ?_ (Keeps.setP _ rfl)
  exact ((Keeps.push _ s).trans (Keeps.push _ _)).trans (Keeps.push _ _)

theorem Keeps.returnFromTrap (s : State) : Keeps s (returnFromTrap s) := by
  simp only [Machine.returnFromTrap]
  refine Keeps.trans ?_ (Keeps.setPc _ _)
  refine Keeps.trans ?_ (Keeps.pop _)
  refine Keeps.trans ?_ (Keeps.pop _)
  exact (Keeps.pop s).trans (Keeps.pullStatus _ _)

/-- Reading a pointer keeps everything but the device history. -/
theorem Keeps.readPointer (p : Byte) (s : State) : Keeps s (readPointer p s).2 :=
  (Keeps.memRead _ s).trans (Keeps.memRead _ _)

theorem Keeps.resolve (m : MemOperand) (s : State) : Keeps s (resolve m s).after := by
  cases m with
  | izx z => exact Keeps.readPointer _ s
  | izy z => exact Keeps.readPointer _ s
  | zp z => exact .refl s
  | zpx z => exact .refl s
  | zpy z => exact .refl s
  | abs w => exact .refl s
  | abx w => exact .refl s
  | aby w => exact .refl s

theorem Keeps.readOperand (src : Source) (s : State) : Keeps s (readOperand src s).after := by
  cases src with
  | imm v => exact .refl s
  | mem m => exact (Keeps.resolve m s).trans (Keeps.memRead _ _)

/-! What each instruction does to registers, flags and the stack keeps all of it too. -/

theorem Keeps.opAdc (m : Byte) (s : State) : Keeps s (opAdc m s) := (Keeps.setA s _).trans (Keeps.setP _ rfl)
theorem Keeps.opSbc (m : Byte) (s : State) : Keeps s (opSbc m s) := (Keeps.setA s _).trans (Keeps.setP _ rfl)
theorem Keeps.loadA (v : Byte) (s : State) : Keeps s (loadA v s) := (Keeps.setA s _).trans (Keeps.setP _ rfl)
theorem Keeps.loadX (v : Byte) (s : State) : Keeps s (loadX v s) := (Keeps.setX s _).trans (Keeps.setP _ rfl)
theorem Keeps.loadY (v : Byte) (s : State) : Keeps s (loadY v s) := (Keeps.setY s _).trans (Keeps.setP _ rfl)
theorem Keeps.opAnd (m : Byte) (s : State) : Keeps s (opAnd m s) := Keeps.loadA _ s
theorem Keeps.opOra (m : Byte) (s : State) : Keeps s (opOra m s) := Keeps.loadA _ s
theorem Keeps.opEor (m : Byte) (s : State) : Keeps s (opEor m s) := Keeps.loadA _ s
theorem Keeps.opBit (m : Byte) (s : State) : Keeps s (opBit m s) := Keeps.setP s rfl
theorem Keeps.opCmp (m : Byte) (s : State) : Keeps s (opCmp m s) := Keeps.setP s rfl
theorem Keeps.opCpx (m : Byte) (s : State) : Keeps s (opCpx m s) := Keeps.setP s rfl
theorem Keeps.opCpy (m : Byte) (s : State) : Keeps s (opCpy m s) := Keeps.setP s rfl
theorem Keeps.opInx (s : State) : Keeps s (opInx s) := (Keeps.setX s _).trans (Keeps.setP _ rfl)
theorem Keeps.opIny (s : State) : Keeps s (opIny s) := (Keeps.setY s _).trans (Keeps.setP _ rfl)
theorem Keeps.opDex (s : State) : Keeps s (opDex s) := (Keeps.setX s _).trans (Keeps.setP _ rfl)
theorem Keeps.opDey (s : State) : Keeps s (opDey s) := (Keeps.setY s _).trans (Keeps.setP _ rfl)
theorem Keeps.opLda (m : Byte) (s : State) : Keeps s (opLda m s) := Keeps.loadA m s
theorem Keeps.opLdx (m : Byte) (s : State) : Keeps s (opLdx m s) := Keeps.loadX m s
theorem Keeps.opLdy (m : Byte) (s : State) : Keeps s (opLdy m s) := Keeps.loadY m s
theorem Keeps.opLax (m : Byte) (s : State) : Keeps s (opLax m s) := (Keeps.setA s m).trans (Keeps.loadX m _)
theorem Keeps.opTax (s : State) : Keeps s (opTax s) := Keeps.loadX _ s
theorem Keeps.opTay (s : State) : Keeps s (opTay s) := Keeps.loadY _ s
theorem Keeps.opTxa (s : State) : Keeps s (opTxa s) := Keeps.loadA _ s
theorem Keeps.opTya (s : State) : Keeps s (opTya s) := Keeps.loadA _ s
theorem Keeps.opTsx (s : State) : Keeps s (opTsx s) := Keeps.loadX _ s
theorem Keeps.opTxs (s : State) : Keeps s (opTxs s) :=
  (Keeps.setSp s _).trans (Keeps.setP _ (by cases s.cfg.txsSetsNz <;> rfl))
theorem Keeps.opPha (s : State) : Keeps s (opPha s) := Keeps.push _ s
theorem Keeps.opPhp (s : State) : Keeps s (opPhp s) := Keeps.push _ s
theorem Keeps.opPla (s : State) : Keeps s (opPla s) := (Keeps.pop s).trans (Keeps.loadA _ _)
theorem Keeps.opPlp (s : State) : Keeps s (opPlp s) := (Keeps.pop s).trans (Keeps.pullStatus _ _)
theorem Keeps.opClc (s : State) : Keeps s (opClc s) := Keeps.setP s rfl
theorem Keeps.opSec (s : State) : Keeps s (opSec s) := Keeps.setP s rfl
theorem Keeps.opCli (s : State) : Keeps s (opCli s) := Keeps.setP s rfl
theorem Keeps.opSei (s : State) : Keeps s (opSei s) := Keeps.setP s rfl
theorem Keeps.opCld (s : State) : Keeps s (opCld s) := Keeps.setP s rfl
theorem Keeps.opSed (s : State) : Keeps s (opSed s) := Keeps.setP s rfl
theorem Keeps.opClv (s : State) : Keeps s (opClv s) := Keeps.setP s rfl
theorem Keeps.opNop (s : State) : Keeps s (opNop s) := .refl s
theorem Keeps.opJmp (w : Word) (s : State) : Keeps s (opJmp w s) := Keeps.setPc s w
theorem Keeps.opJmpIndirect (w : Word) (s : State) : Keeps s (opJmpIndirect w s) :=
  ((Keeps.memRead _ s).trans (Keeps.memRead _ _)).trans (Keeps.setPc _ _)
theorem Keeps.opJsr (w : Word) (s : State) : Keeps s (opJsr w s) :=
  ((Keeps.push _ s).trans (Keeps.push _ _)).trans (Keeps.setPc _ w)
theorem Keeps.opRts (s : State) : Keeps s (opRts s) := ((Keeps.pop s).trans (Keeps.pop _)).trans (Keeps.setPc _ _)

/-! The instruction shapes: if one answers a next state, it keeps what its parts keep. -/

theorem readInstr_keeps {f : Byte → State → State} (hf : ∀ m s, Keeps s (f m s)) {src : Source} {base : Nat}
    {s t : State} (h : readInstr f src base s = .next t) : Keeps s t := by
  cases h
  exact ((Keeps.readOperand src s).trans (hf _ _)).trans (Keeps.advance _ _ _)

theorem modifyInstr_keeps {f : Byte → Flags → Byte × Flags} (hf : ∀ m p, (f m p).2.b = p.b) {place : Place}
    {base : Nat} {s t : State} (h : modifyInstr f place base s = .next t) : Keeps s t := by
  cases place with
  | acc =>
    cases h
    exact ((Keeps.setA s _).trans (Keeps.setP _ (hf _ _))).trans (Keeps.advance _ _ _)
  | mem m =>
    cases h
    refine ((((Keeps.resolve m s).trans (Keeps.memRead _ _)).trans (Keeps.memWrite _ _ _)).trans
      (Keeps.setP _ ?_)).trans (Keeps.advance _ _ _)
    rw [hf, memWrite_p]

theorem storeInstr_keeps {v : Byte} {m : MemOperand} {base : Nat} {s t : State}
    (h : storeInstr v m base s = .next t) : Keeps s t := by
  cases h
  exact ((Keeps.resolve m s).trans (Keeps.memWrite _ _ _)).trans (Keeps.advance _ _ _)

theorem impliedInstr_keeps {f : State → State} (hf : ∀ s, Keeps s (f s)) {base : Nat} {s t : State}
    (h : impliedInstr f base s = .next t) : Keeps s t := by
  cases h
  exact (hf s).trans (Keeps.advance _ _ _)

theorem branchInstr_keeps {taken : Bool} {off : Byte} {base : Nat} {s t : State}
    (h : branchInstr taken off base s = .next t) : Keeps s t := by
  unfold branchInstr at h
  split at h <;> cases h <;> exact (Keeps.setPc _ _).trans (Keeps.charge _ _)

theorem transferInstr_keeps {f : State → State} (hf : ∀ s, Keeps s (f s)) {base : Nat} {s t : State}
    (h : transferInstr f base s = .next t) : Keeps s t := by
  cases h
  exact (hf s).trans (Keeps.charge _ _)

theorem nopInstr_keeps {m : MemOperand} {base : Nat} {s t : State} (h : nopInstr m base s = .next t) : Keeps s t := by
  cases h
  refine Keeps.trans ?_ (Keeps.advance _ _ _)
  split
  · exact (Keeps.resolve m s).trans (Keeps.memRead _ _)
  · exact Keeps.resolve m s

end Sys2Proof.Machine
end

