-- ==== Sys2Proof/Laws/PerInstr.lean ====
section
/-! SUPPORT. The decoder map and the instructions' rows agree, instruction by instruction. -/

namespace Sys2Proof.Laws

/-- The bytes after the opcode that an entry takes, given to it: the instruction they make. -/
def applyEntry : OpcodeEntry → List Byte → Option Instr
  | .one i, [] => some i
  | .two f, [b] => some (f b)
  | .three f, [lo, hi] => some (f (wordOf lo hi))
  | _, _ => none

/-- An operand word is made of its two bytes. -/
@[simp] theorem wordOf_lowByte_highByte (w : Word) : wordOf (lowByte w) (highByte w) = w := by
  unfold wordOf lowByte highByte
  ext i hi
  simp only [BitVec.getElem_append, BitVec.getElem_extractLsb']
  split
  · simp [BitVec.getLsbD_eq_getElem hi]
  · rw [BitVec.getLsbD_eq_getElem (by omega)]
    congr 1
    omega

@[simp] theorem lowByte_wordOf (lo hi : Byte) : lowByte (wordOf lo hi) = lo := by
  unfold lowByte wordOf
  ext i h
  simp only [BitVec.getElem_extractLsb', Nat.zero_add]
  rw [BitVec.getLsbD_append, if_pos (by omega), BitVec.getLsbD_eq_getElem]

@[simp] theorem highByte_wordOf (lo hi : Byte) : highByte (wordOf lo hi) = hi := by
  unfold highByte wordOf
  ext i h
  simp only [BitVec.getElem_extractLsb']
  rw [BitVec.getLsbD_append, if_neg (by omega), BitVec.getLsbD_eq_getElem (by omega)]
  congr 1
  omega

/-- Every instruction an entry makes is encoded with the entry's opcode byte and the bytes given to it. -/
def EntryEncodes (n : Nat) : Option OpcodeEntry → Prop
  | none => True
  | some (.one i) => encode i = [BitVec.ofNat 8 n]
  | some (.two f) => ∀ b, encode (f b) = [BitVec.ofNat 8 n, b]
  | some (.three f) => ∀ w, encode (f w) = [BitVec.ofNat 8 n, lowByte w, highByte w]

/-- The decoder map and the encoder agree, byte by byte. -/
theorem opcodeEntry_encodes (n : Nat) (h : n < 256) : EntryEncodes n (opcodeEntry n) := by
  interval_cases n <;> first | exact trivial | exact rfl | exact fun b => rfl

/-- The instruction's opcode byte leads the decoder map to the instruction, given its operand bytes. -/
def TableRow.Statement (i : Instr) : Prop :=
  ∃ e, opcodeEntry i.row.opcode.toNat = some e ∧ e.size = i.size ∧ applyEntry e i.row.operand.bytes = some i

theorem TableRow.adcImm (v : Byte) : TableRow.Statement (.adcImm v) :=
  ⟨.two .adcImm, rfl, rfl, rfl⟩
theorem TableRow.adcZp (z : Byte) : TableRow.Statement (.adcZp z) :=
  ⟨.two .adcZp, rfl, rfl, rfl⟩
theorem TableRow.adcZpx (z : Byte) : TableRow.Statement (.adcZpx z) :=
  ⟨.two .adcZpx, rfl, rfl, rfl⟩
theorem TableRow.adcAbs (w : Word) : TableRow.Statement (.adcAbs w) :=
  ⟨.three .adcAbs, rfl, rfl, congrArg (fun u => some (Instr.adcAbs u)) (wordOf_lowByte_highByte w)⟩
theorem TableRow.adcAbx (w : Word) : TableRow.Statement (.adcAbx w) :=
  ⟨.three .adcAbx, rfl, rfl, congrArg (fun u => some (Instr.adcAbx u)) (wordOf_lowByte_highByte w)⟩
theorem TableRow.adcAby (w : Word) : TableRow.Statement (.adcAby w) :=
  ⟨.three .adcAby, rfl, rfl, congrArg (fun u => some (Instr.adcAby u)) (wordOf_lowByte_highByte w)⟩
theorem TableRow.adcIzx (z : Byte) : TableRow.Statement (.adcIzx z) :=
  ⟨.two .adcIzx, rfl, rfl, rfl⟩
theorem TableRow.adcIzy (z : Byte) : TableRow.Statement (.adcIzy z) :=
  ⟨.two .adcIzy, rfl, rfl, rfl⟩
theorem TableRow.sbcImm (v : Byte) : TableRow.Statement (.sbcImm v) :=
  ⟨.two .sbcImm, rfl, rfl, rfl⟩
theorem TableRow.sbcZp (z : Byte) : TableRow.Statement (.sbcZp z) :=
  ⟨.two .sbcZp, rfl, rfl, rfl⟩
theorem TableRow.sbcZpx (z : Byte) : TableRow.Statement (.sbcZpx z) :=
  ⟨.two .sbcZpx, rfl, rfl, rfl⟩
theorem TableRow.sbcAbs (w : Word) : TableRow.Statement (.sbcAbs w) :=
  ⟨.three .sbcAbs, rfl, rfl, congrArg (fun u => some (Instr.sbcAbs u)) (wordOf_lowByte_highByte w)⟩
theorem TableRow.sbcAbx (w : Word) : TableRow.Statement (.sbcAbx w) :=
  ⟨.three .sbcAbx, rfl, rfl, congrArg (fun u => some (Instr.sbcAbx u)) (wordOf_lowByte_highByte w)⟩
theorem TableRow.sbcAby (w : Word) : TableRow.Statement (.sbcAby w) :=
  ⟨.three .sbcAby, rfl, rfl, congrArg (fun u => some (Instr.sbcAby u)) (wordOf_lowByte_highByte w)⟩
theorem TableRow.sbcIzx (z : Byte) : TableRow.Statement (.sbcIzx z) :=
  ⟨.two .sbcIzx, rfl, rfl, rfl⟩
theorem TableRow.sbcIzy (z : Byte) : TableRow.Statement (.sbcIzy z) :=
  ⟨.two .sbcIzy, rfl, rfl, rfl⟩
theorem TableRow.andImm (v : Byte) : TableRow.Statement (.andImm v) :=
  ⟨.two .andImm, rfl, rfl, rfl⟩
theorem TableRow.andZp (z : Byte) : TableRow.Statement (.andZp z) :=
  ⟨.two .andZp, rfl, rfl, rfl⟩
theorem TableRow.andZpx (z : Byte) : TableRow.Statement (.andZpx z) :=
  ⟨.two .andZpx, rfl, rfl, rfl⟩
theorem TableRow.andAbs (w : Word) : TableRow.Statement (.andAbs w) :=
  ⟨.three .andAbs, rfl, rfl, congrArg (fun u => some (Instr.andAbs u)) (wordOf_lowByte_highByte w)⟩
theorem TableRow.andAbx (w : Word) : TableRow.Statement (.andAbx w) :=
  ⟨.three .andAbx, rfl, rfl, congrArg (fun u => some (Instr.andAbx u)) (wordOf_lowByte_highByte w)⟩
theorem TableRow.andAby (w : Word) : TableRow.Statement (.andAby w) :=
  ⟨.three .andAby, rfl, rfl, congrArg (fun u => some (Instr.andAby u)) (wordOf_lowByte_highByte w)⟩
theorem TableRow.andIzx (z : Byte) : TableRow.Statement (.andIzx z) :=
  ⟨.two .andIzx, rfl, rfl, rfl⟩
theorem TableRow.andIzy (z : Byte) : TableRow.Statement (.andIzy z) :=
  ⟨.two .andIzy, rfl, rfl, rfl⟩
theorem TableRow.oraImm (v : Byte) : TableRow.Statement (.oraImm v) :=
  ⟨.two .oraImm, rfl, rfl, rfl⟩
theorem TableRow.oraZp (z : Byte) : TableRow.Statement (.oraZp z) :=
  ⟨.two .oraZp, rfl, rfl, rfl⟩
theorem TableRow.oraZpx (z : Byte) : TableRow.Statement (.oraZpx z) :=
  ⟨.two .oraZpx, rfl, rfl, rfl⟩
theorem TableRow.oraAbs (w : Word) : TableRow.Statement (.oraAbs w) :=
  ⟨.three .oraAbs, rfl, rfl, congrArg (fun u => some (Instr.oraAbs u)) (wordOf_lowByte_highByte w)⟩
theorem TableRow.oraAbx (w : Word) : TableRow.Statement (.oraAbx w) :=
  ⟨.three .oraAbx, rfl, rfl, congrArg (fun u => some (Instr.oraAbx u)) (wordOf_lowByte_highByte w)⟩
theorem TableRow.oraAby (w : Word) : TableRow.Statement (.oraAby w) :=
  ⟨.three .oraAby, rfl, rfl, congrArg (fun u => some (Instr.oraAby u)) (wordOf_lowByte_highByte w)⟩
theorem TableRow.oraIzx (z : Byte) : TableRow.Statement (.oraIzx z) :=
  ⟨.two .oraIzx, rfl, rfl, rfl⟩
theorem TableRow.oraIzy (z : Byte) : TableRow.Statement (.oraIzy z) :=
  ⟨.two .oraIzy, rfl, rfl, rfl⟩
theorem TableRow.eorImm (v : Byte) : TableRow.Statement (.eorImm v) :=
  ⟨.two .eorImm, rfl, rfl, rfl⟩
theorem TableRow.eorZp (z : Byte) : TableRow.Statement (.eorZp z) :=
  ⟨.two .eorZp, rfl, rfl, rfl⟩
theorem TableRow.eorZpx (z : Byte) : TableRow.Statement (.eorZpx z) :=
  ⟨.two .eorZpx, rfl, rfl, rfl⟩
theorem TableRow.eorAbs (w : Word) : TableRow.Statement (.eorAbs w) :=
  ⟨.three .eorAbs, rfl, rfl, congrArg (fun u => some (Instr.eorAbs u)) (wordOf_lowByte_highByte w)⟩
theorem TableRow.eorAbx (w : Word) : TableRow.Statement (.eorAbx w) :=
  ⟨.three .eorAbx, rfl, rfl, congrArg (fun u => some (Instr.eorAbx u)) (wordOf_lowByte_highByte w)⟩
theorem TableRow.eorAby (w : Word) : TableRow.Statement (.eorAby w) :=
  ⟨.three .eorAby, rfl, rfl, congrArg (fun u => some (Instr.eorAby u)) (wordOf_lowByte_highByte w)⟩
theorem TableRow.eorIzx (z : Byte) : TableRow.Statement (.eorIzx z) :=
  ⟨.two .eorIzx, rfl, rfl, rfl⟩
theorem TableRow.eorIzy (z : Byte) : TableRow.Statement (.eorIzy z) :=
  ⟨.two .eorIzy, rfl, rfl, rfl⟩
theorem TableRow.bitZp (z : Byte) : TableRow.Statement (.bitZp z) :=
  ⟨.two .bitZp, rfl, rfl, rfl⟩
theorem TableRow.bitAbs (w : Word) : TableRow.Statement (.bitAbs w) :=
  ⟨.three .bitAbs, rfl, rfl, congrArg (fun u => some (Instr.bitAbs u)) (wordOf_lowByte_highByte w)⟩
theorem TableRow.cmpImm (v : Byte) : TableRow.Statement (.cmpImm v) :=
  ⟨.two .cmpImm, rfl, rfl, rfl⟩
theorem TableRow.cmpZp (z : Byte) : TableRow.Statement (.cmpZp z) :=
  ⟨.two .cmpZp, rfl, rfl, rfl⟩
theorem TableRow.cmpZpx (z : Byte) : TableRow.Statement (.cmpZpx z) :=
  ⟨.two .cmpZpx, rfl, rfl, rfl⟩
theorem TableRow.cmpAbs (w : Word) : TableRow.Statement (.cmpAbs w) :=
  ⟨.three .cmpAbs, rfl, rfl, congrArg (fun u => some (Instr.cmpAbs u)) (wordOf_lowByte_highByte w)⟩
theorem TableRow.cmpAbx (w : Word) : TableRow.Statement (.cmpAbx w) :=
  ⟨.three .cmpAbx, rfl, rfl, congrArg (fun u => some (Instr.cmpAbx u)) (wordOf_lowByte_highByte w)⟩
theorem TableRow.cmpAby (w : Word) : TableRow.Statement (.cmpAby w) :=
  ⟨.three .cmpAby, rfl, rfl, congrArg (fun u => some (Instr.cmpAby u)) (wordOf_lowByte_highByte w)⟩
theorem TableRow.cmpIzx (z : Byte) : TableRow.Statement (.cmpIzx z) :=
  ⟨.two .cmpIzx, rfl, rfl, rfl⟩
theorem TableRow.cmpIzy (z : Byte) : TableRow.Statement (.cmpIzy z) :=
  ⟨.two .cmpIzy, rfl, rfl, rfl⟩
theorem TableRow.cpxImm (v : Byte) : TableRow.Statement (.cpxImm v) :=
  ⟨.two .cpxImm, rfl, rfl, rfl⟩
theorem TableRow.cpxZp (z : Byte) : TableRow.Statement (.cpxZp z) :=
  ⟨.two .cpxZp, rfl, rfl, rfl⟩
theorem TableRow.cpxAbs (w : Word) : TableRow.Statement (.cpxAbs w) :=
  ⟨.three .cpxAbs, rfl, rfl, congrArg (fun u => some (Instr.cpxAbs u)) (wordOf_lowByte_highByte w)⟩
theorem TableRow.cpyImm (v : Byte) : TableRow.Statement (.cpyImm v) :=
  ⟨.two .cpyImm, rfl, rfl, rfl⟩
theorem TableRow.cpyZp (z : Byte) : TableRow.Statement (.cpyZp z) :=
  ⟨.two .cpyZp, rfl, rfl, rfl⟩
theorem TableRow.cpyAbs (w : Word) : TableRow.Statement (.cpyAbs w) :=
  ⟨.three .cpyAbs, rfl, rfl, congrArg (fun u => some (Instr.cpyAbs u)) (wordOf_lowByte_highByte w)⟩
theorem TableRow.incZp (z : Byte) : TableRow.Statement (.incZp z) :=
  ⟨.two .incZp, rfl, rfl, rfl⟩
theorem TableRow.incZpx (z : Byte) : TableRow.Statement (.incZpx z) :=
  ⟨.two .incZpx, rfl, rfl, rfl⟩
theorem TableRow.incAbs (w : Word) : TableRow.Statement (.incAbs w) :=
  ⟨.three .incAbs, rfl, rfl, congrArg (fun u => some (Instr.incAbs u)) (wordOf_lowByte_highByte w)⟩
theorem TableRow.incAbx (w : Word) : TableRow.Statement (.incAbx w) :=
  ⟨.three .incAbx, rfl, rfl, congrArg (fun u => some (Instr.incAbx u)) (wordOf_lowByte_highByte w)⟩
theorem TableRow.decZp (z : Byte) : TableRow.Statement (.decZp z) :=
  ⟨.two .decZp, rfl, rfl, rfl⟩
theorem TableRow.decZpx (z : Byte) : TableRow.Statement (.decZpx z) :=
  ⟨.two .decZpx, rfl, rfl, rfl⟩
theorem TableRow.decAbs (w : Word) : TableRow.Statement (.decAbs w) :=
  ⟨.three .decAbs, rfl, rfl, congrArg (fun u => some (Instr.decAbs u)) (wordOf_lowByte_highByte w)⟩
theorem TableRow.decAbx (w : Word) : TableRow.Statement (.decAbx w) :=
  ⟨.three .decAbx, rfl, rfl, congrArg (fun u => some (Instr.decAbx u)) (wordOf_lowByte_highByte w)⟩
theorem TableRow.inx : TableRow.Statement (.inx) :=
  ⟨.one .inx, rfl, rfl, rfl⟩
theorem TableRow.iny : TableRow.Statement (.iny) :=
  ⟨.one .iny, rfl, rfl, rfl⟩
theorem TableRow.dex : TableRow.Statement (.dex) :=
  ⟨.one .dex, rfl, rfl, rfl⟩
theorem TableRow.dey : TableRow.Statement (.dey) :=
  ⟨.one .dey, rfl, rfl, rfl⟩
theorem TableRow.aslAcc : TableRow.Statement (.aslAcc) :=
  ⟨.one .aslAcc, rfl, rfl, rfl⟩
theorem TableRow.aslZp (z : Byte) : TableRow.Statement (.aslZp z) :=
  ⟨.two .aslZp, rfl, rfl, rfl⟩
theorem TableRow.aslZpx (z : Byte) : TableRow.Statement (.aslZpx z) :=
  ⟨.two .aslZpx, rfl, rfl, rfl⟩
theorem TableRow.aslAbs (w : Word) : TableRow.Statement (.aslAbs w) :=
  ⟨.three .aslAbs, rfl, rfl, congrArg (fun u => some (Instr.aslAbs u)) (wordOf_lowByte_highByte w)⟩
theorem TableRow.aslAbx (w : Word) : TableRow.Statement (.aslAbx w) :=
  ⟨.three .aslAbx, rfl, rfl, congrArg (fun u => some (Instr.aslAbx u)) (wordOf_lowByte_highByte w)⟩
theorem TableRow.lsrAcc : TableRow.Statement (.lsrAcc) :=
  ⟨.one .lsrAcc, rfl, rfl, rfl⟩
theorem TableRow.lsrZp (z : Byte) : TableRow.Statement (.lsrZp z) :=
  ⟨.two .lsrZp, rfl, rfl, rfl⟩
theorem TableRow.lsrZpx (z : Byte) : TableRow.Statement (.lsrZpx z) :=
  ⟨.two .lsrZpx, rfl, rfl, rfl⟩
theorem TableRow.lsrAbs (w : Word) : TableRow.Statement (.lsrAbs w) :=
  ⟨.three .lsrAbs, rfl, rfl, congrArg (fun u => some (Instr.lsrAbs u)) (wordOf_lowByte_highByte w)⟩
theorem TableRow.lsrAbx (w : Word) : TableRow.Statement (.lsrAbx w) :=
  ⟨.three .lsrAbx, rfl, rfl, congrArg (fun u => some (Instr.lsrAbx u)) (wordOf_lowByte_highByte w)⟩
theorem TableRow.rolAcc : TableRow.Statement (.rolAcc) :=
  ⟨.one .rolAcc, rfl, rfl, rfl⟩
theorem TableRow.rolZp (z : Byte) : TableRow.Statement (.rolZp z) :=
  ⟨.two .rolZp, rfl, rfl, rfl⟩
theorem TableRow.rolZpx (z : Byte) : TableRow.Statement (.rolZpx z) :=
  ⟨.two .rolZpx, rfl, rfl, rfl⟩
theorem TableRow.rolAbs (w : Word) : TableRow.Statement (.rolAbs w) :=
  ⟨.three .rolAbs, rfl, rfl, congrArg (fun u => some (Instr.rolAbs u)) (wordOf_lowByte_highByte w)⟩
theorem TableRow.rolAbx (w : Word) : TableRow.Statement (.rolAbx w) :=
  ⟨.three .rolAbx, rfl, rfl, congrArg (fun u => some (Instr.rolAbx u)) (wordOf_lowByte_highByte w)⟩
theorem TableRow.rorAcc : TableRow.Statement (.rorAcc) :=
  ⟨.one .rorAcc, rfl, rfl, rfl⟩
theorem TableRow.rorZp (z : Byte) : TableRow.Statement (.rorZp z) :=
  ⟨.two .rorZp, rfl, rfl, rfl⟩
theorem TableRow.rorZpx (z : Byte) : TableRow.Statement (.rorZpx z) :=
  ⟨.two .rorZpx, rfl, rfl, rfl⟩
theorem TableRow.rorAbs (w : Word) : TableRow.Statement (.rorAbs w) :=
  ⟨.three .rorAbs, rfl, rfl, congrArg (fun u => some (Instr.rorAbs u)) (wordOf_lowByte_highByte w)⟩
theorem TableRow.rorAbx (w : Word) : TableRow.Statement (.rorAbx w) :=
  ⟨.three .rorAbx, rfl, rfl, congrArg (fun u => some (Instr.rorAbx u)) (wordOf_lowByte_highByte w)⟩
theorem TableRow.bcc (off : Byte) : TableRow.Statement (.bcc off) :=
  ⟨.two .bcc, rfl, rfl, rfl⟩
theorem TableRow.bcs (off : Byte) : TableRow.Statement (.bcs off) :=
  ⟨.two .bcs, rfl, rfl, rfl⟩
theorem TableRow.beq (off : Byte) : TableRow.Statement (.beq off) :=
  ⟨.two .beq, rfl, rfl, rfl⟩
theorem TableRow.bmi (off : Byte) : TableRow.Statement (.bmi off) :=
  ⟨.two .bmi, rfl, rfl, rfl⟩
theorem TableRow.bne (off : Byte) : TableRow.Statement (.bne off) :=
  ⟨.two .bne, rfl, rfl, rfl⟩
theorem TableRow.bpl (off : Byte) : TableRow.Statement (.bpl off) :=
  ⟨.two .bpl, rfl, rfl, rfl⟩
theorem TableRow.bvc (off : Byte) : TableRow.Statement (.bvc off) :=
  ⟨.two .bvc, rfl, rfl, rfl⟩
theorem TableRow.bvs (off : Byte) : TableRow.Statement (.bvs off) :=
  ⟨.two .bvs, rfl, rfl, rfl⟩
theorem TableRow.jmpAbs (w : Word) : TableRow.Statement (.jmpAbs w) :=
  ⟨.three .jmpAbs, rfl, rfl, congrArg (fun u => some (Instr.jmpAbs u)) (wordOf_lowByte_highByte w)⟩
theorem TableRow.jmpInd (w : Word) : TableRow.Statement (.jmpInd w) :=
  ⟨.three .jmpInd, rfl, rfl, congrArg (fun u => some (Instr.jmpInd u)) (wordOf_lowByte_highByte w)⟩
theorem TableRow.jsr (w : Word) : TableRow.Statement (.jsr w) :=
  ⟨.three .jsr, rfl, rfl, congrArg (fun u => some (Instr.jsr u)) (wordOf_lowByte_highByte w)⟩
theorem TableRow.rts : TableRow.Statement (.rts) :=
  ⟨.one .rts, rfl, rfl, rfl⟩
theorem TableRow.brk : TableRow.Statement (.brk) :=
  ⟨.one .brk, rfl, rfl, rfl⟩
theorem TableRow.rti : TableRow.Statement (.rti) :=
  ⟨.one .rti, rfl, rfl, rfl⟩
theorem TableRow.ldaImm (v : Byte) : TableRow.Statement (.ldaImm v) :=
  ⟨.two .ldaImm, rfl, rfl, rfl⟩
theorem TableRow.ldaZp (z : Byte) : TableRow.Statement (.ldaZp z) :=
  ⟨.two .ldaZp, rfl, rfl, rfl⟩
theorem TableRow.ldaZpx (z : Byte) : TableRow.Statement (.ldaZpx z) :=
  ⟨.two .ldaZpx, rfl, rfl, rfl⟩
theorem TableRow.ldaAbs (w : Word) : TableRow.Statement (.ldaAbs w) :=
  ⟨.three .ldaAbs, rfl, rfl, congrArg (fun u => some (Instr.ldaAbs u)) (wordOf_lowByte_highByte w)⟩
theorem TableRow.ldaAbx (w : Word) : TableRow.Statement (.ldaAbx w) :=
  ⟨.three .ldaAbx, rfl, rfl, congrArg (fun u => some (Instr.ldaAbx u)) (wordOf_lowByte_highByte w)⟩
theorem TableRow.ldaAby (w : Word) : TableRow.Statement (.ldaAby w) :=
  ⟨.three .ldaAby, rfl, rfl, congrArg (fun u => some (Instr.ldaAby u)) (wordOf_lowByte_highByte w)⟩
theorem TableRow.ldaIzx (z : Byte) : TableRow.Statement (.ldaIzx z) :=
  ⟨.two .ldaIzx, rfl, rfl, rfl⟩
theorem TableRow.ldaIzy (z : Byte) : TableRow.Statement (.ldaIzy z) :=
  ⟨.two .ldaIzy, rfl, rfl, rfl⟩
theorem TableRow.ldxImm (v : Byte) : TableRow.Statement (.ldxImm v) :=
  ⟨.two .ldxImm, rfl, rfl, rfl⟩
theorem TableRow.ldxZp (z : Byte) : TableRow.Statement (.ldxZp z) :=
  ⟨.two .ldxZp, rfl, rfl, rfl⟩
theorem TableRow.ldxZpy (z : Byte) : TableRow.Statement (.ldxZpy z) :=
  ⟨.two .ldxZpy, rfl, rfl, rfl⟩
theorem TableRow.ldxAbs (w : Word) : TableRow.Statement (.ldxAbs w) :=
  ⟨.three .ldxAbs, rfl, rfl, congrArg (fun u => some (Instr.ldxAbs u)) (wordOf_lowByte_highByte w)⟩
theorem TableRow.ldxAby (w : Word) : TableRow.Statement (.ldxAby w) :=
  ⟨.three .ldxAby, rfl, rfl, congrArg (fun u => some (Instr.ldxAby u)) (wordOf_lowByte_highByte w)⟩
theorem TableRow.ldyImm (v : Byte) : TableRow.Statement (.ldyImm v) :=
  ⟨.two .ldyImm, rfl, rfl, rfl⟩
theorem TableRow.ldyZp (z : Byte) : TableRow.Statement (.ldyZp z) :=
  ⟨.two .ldyZp, rfl, rfl, rfl⟩
theorem TableRow.ldyZpx (z : Byte) : TableRow.Statement (.ldyZpx z) :=
  ⟨.two .ldyZpx, rfl, rfl, rfl⟩
theorem TableRow.ldyAbs (w : Word) : TableRow.Statement (.ldyAbs w) :=
  ⟨.three .ldyAbs, rfl, rfl, congrArg (fun u => some (Instr.ldyAbs u)) (wordOf_lowByte_highByte w)⟩
theorem TableRow.ldyAbx (w : Word) : TableRow.Statement (.ldyAbx w) :=
  ⟨.three .ldyAbx, rfl, rfl, congrArg (fun u => some (Instr.ldyAbx u)) (wordOf_lowByte_highByte w)⟩
theorem TableRow.laxZp (z : Byte) : TableRow.Statement (.laxZp z) :=
  ⟨.two .laxZp, rfl, rfl, rfl⟩
theorem TableRow.laxZpy (z : Byte) : TableRow.Statement (.laxZpy z) :=
  ⟨.two .laxZpy, rfl, rfl, rfl⟩
theorem TableRow.laxAbs (w : Word) : TableRow.Statement (.laxAbs w) :=
  ⟨.three .laxAbs, rfl, rfl, congrArg (fun u => some (Instr.laxAbs u)) (wordOf_lowByte_highByte w)⟩
theorem TableRow.laxAby (w : Word) : TableRow.Statement (.laxAby w) :=
  ⟨.three .laxAby, rfl, rfl, congrArg (fun u => some (Instr.laxAby u)) (wordOf_lowByte_highByte w)⟩
theorem TableRow.laxIzx (z : Byte) : TableRow.Statement (.laxIzx z) :=
  ⟨.two .laxIzx, rfl, rfl, rfl⟩
theorem TableRow.laxIzy (z : Byte) : TableRow.Statement (.laxIzy z) :=
  ⟨.two .laxIzy, rfl, rfl, rfl⟩
theorem TableRow.staZp (z : Byte) : TableRow.Statement (.staZp z) :=
  ⟨.two .staZp, rfl, rfl, rfl⟩
theorem TableRow.staZpx (z : Byte) : TableRow.Statement (.staZpx z) :=
  ⟨.two .staZpx, rfl, rfl, rfl⟩
theorem TableRow.staAbs (w : Word) : TableRow.Statement (.staAbs w) :=
  ⟨.three .staAbs, rfl, rfl, congrArg (fun u => some (Instr.staAbs u)) (wordOf_lowByte_highByte w)⟩
theorem TableRow.staAbx (w : Word) : TableRow.Statement (.staAbx w) :=
  ⟨.three .staAbx, rfl, rfl, congrArg (fun u => some (Instr.staAbx u)) (wordOf_lowByte_highByte w)⟩
theorem TableRow.staAby (w : Word) : TableRow.Statement (.staAby w) :=
  ⟨.three .staAby, rfl, rfl, congrArg (fun u => some (Instr.staAby u)) (wordOf_lowByte_highByte w)⟩
theorem TableRow.staIzx (z : Byte) : TableRow.Statement (.staIzx z) :=
  ⟨.two .staIzx, rfl, rfl, rfl⟩
theorem TableRow.staIzy (z : Byte) : TableRow.Statement (.staIzy z) :=
  ⟨.two .staIzy, rfl, rfl, rfl⟩
theorem TableRow.stxZp (z : Byte) : TableRow.Statement (.stxZp z) :=
  ⟨.two .stxZp, rfl, rfl, rfl⟩
theorem TableRow.stxZpy (z : Byte) : TableRow.Statement (.stxZpy z) :=
  ⟨.two .stxZpy, rfl, rfl, rfl⟩
theorem TableRow.stxAbs (w : Word) : TableRow.Statement (.stxAbs w) :=
  ⟨.three .stxAbs, rfl, rfl, congrArg (fun u => some (Instr.stxAbs u)) (wordOf_lowByte_highByte w)⟩
theorem TableRow.styZp (z : Byte) : TableRow.Statement (.styZp z) :=
  ⟨.two .styZp, rfl, rfl, rfl⟩
theorem TableRow.styZpx (z : Byte) : TableRow.Statement (.styZpx z) :=
  ⟨.two .styZpx, rfl, rfl, rfl⟩
theorem TableRow.styAbs (w : Word) : TableRow.Statement (.styAbs w) :=
  ⟨.three .styAbs, rfl, rfl, congrArg (fun u => some (Instr.styAbs u)) (wordOf_lowByte_highByte w)⟩
theorem TableRow.tax : TableRow.Statement (.tax) :=
  ⟨.one .tax, rfl, rfl, rfl⟩
theorem TableRow.tay : TableRow.Statement (.tay) :=
  ⟨.one .tay, rfl, rfl, rfl⟩
theorem TableRow.txa : TableRow.Statement (.txa) :=
  ⟨.one .txa, rfl, rfl, rfl⟩
theorem TableRow.tya : TableRow.Statement (.tya) :=
  ⟨.one .tya, rfl, rfl, rfl⟩
theorem TableRow.tsx : TableRow.Statement (.tsx) :=
  ⟨.one .tsx, rfl, rfl, rfl⟩
theorem TableRow.txs : TableRow.Statement (.txs) :=
  ⟨.one .txs, rfl, rfl, rfl⟩
theorem TableRow.pha : TableRow.Statement (.pha) :=
  ⟨.one .pha, rfl, rfl, rfl⟩
theorem TableRow.php : TableRow.Statement (.php) :=
  ⟨.one .php, rfl, rfl, rfl⟩
theorem TableRow.pla : TableRow.Statement (.pla) :=
  ⟨.one .pla, rfl, rfl, rfl⟩
theorem TableRow.plp : TableRow.Statement (.plp) :=
  ⟨.one .plp, rfl, rfl, rfl⟩
theorem TableRow.clc : TableRow.Statement (.clc) :=
  ⟨.one .clc, rfl, rfl, rfl⟩
theorem TableRow.sec : TableRow.Statement (.sec) :=
  ⟨.one .sec, rfl, rfl, rfl⟩
theorem TableRow.cli : TableRow.Statement (.cli) :=
  ⟨.one .cli, rfl, rfl, rfl⟩
theorem TableRow.sei : TableRow.Statement (.sei) :=
  ⟨.one .sei, rfl, rfl, rfl⟩
theorem TableRow.cld : TableRow.Statement (.cld) :=
  ⟨.one .cld, rfl, rfl, rfl⟩
theorem TableRow.sed : TableRow.Statement (.sed) :=
  ⟨.one .sed, rfl, rfl, rfl⟩
theorem TableRow.clv : TableRow.Statement (.clv) :=
  ⟨.one .clv, rfl, rfl, rfl⟩
theorem TableRow.nop : TableRow.Statement (.nop) :=
  ⟨.one .nop, rfl, rfl, rfl⟩
theorem TableRow.nop1A : TableRow.Statement (.nop1A) :=
  ⟨.one .nop1A, rfl, rfl, rfl⟩
theorem TableRow.nop3A : TableRow.Statement (.nop3A) :=
  ⟨.one .nop3A, rfl, rfl, rfl⟩
theorem TableRow.nop5A : TableRow.Statement (.nop5A) :=
  ⟨.one .nop5A, rfl, rfl, rfl⟩
theorem TableRow.nop7A : TableRow.Statement (.nop7A) :=
  ⟨.one .nop7A, rfl, rfl, rfl⟩
theorem TableRow.nopDA : TableRow.Statement (.nopDA) :=
  ⟨.one .nopDA, rfl, rfl, rfl⟩
theorem TableRow.nopFA : TableRow.Statement (.nopFA) :=
  ⟨.one .nopFA, rfl, rfl, rfl⟩
theorem TableRow.nop80 (v : Byte) : TableRow.Statement (.nop80 v) :=
  ⟨.two .nop80, rfl, rfl, rfl⟩
theorem TableRow.nop82 (v : Byte) : TableRow.Statement (.nop82 v) :=
  ⟨.two .nop82, rfl, rfl, rfl⟩
theorem TableRow.nop89 (v : Byte) : TableRow.Statement (.nop89 v) :=
  ⟨.two .nop89, rfl, rfl, rfl⟩
theorem TableRow.nopC2 (v : Byte) : TableRow.Statement (.nopC2 v) :=
  ⟨.two .nopC2, rfl, rfl, rfl⟩
theorem TableRow.nopE2 (v : Byte) : TableRow.Statement (.nopE2 v) :=
  ⟨.two .nopE2, rfl, rfl, rfl⟩
theorem TableRow.nop04 (z : Byte) : TableRow.Statement (.nop04 z) :=
  ⟨.two .nop04, rfl, rfl, rfl⟩
theorem TableRow.nop44 (z : Byte) : TableRow.Statement (.nop44 z) :=
  ⟨.two .nop44, rfl, rfl, rfl⟩
theorem TableRow.nop64 (z : Byte) : TableRow.Statement (.nop64 z) :=
  ⟨.two .nop64, rfl, rfl, rfl⟩
theorem TableRow.nop14 (z : Byte) : TableRow.Statement (.nop14 z) :=
  ⟨.two .nop14, rfl, rfl, rfl⟩
theorem TableRow.nop34 (z : Byte) : TableRow.Statement (.nop34 z) :=
  ⟨.two .nop34, rfl, rfl, rfl⟩
theorem TableRow.nop54 (z : Byte) : TableRow.Statement (.nop54 z) :=
  ⟨.two .nop54, rfl, rfl, rfl⟩
theorem TableRow.nop74 (z : Byte) : TableRow.Statement (.nop74 z) :=
  ⟨.two .nop74, rfl, rfl, rfl⟩
theorem TableRow.nopD4 (z : Byte) : TableRow.Statement (.nopD4 z) :=
  ⟨.two .nopD4, rfl, rfl, rfl⟩
theorem TableRow.nopF4 (z : Byte) : TableRow.Statement (.nopF4 z) :=
  ⟨.two .nopF4, rfl, rfl, rfl⟩
theorem TableRow.nop0C (w : Word) : TableRow.Statement (.nop0C w) :=
  ⟨.three .nop0C, rfl, rfl, congrArg (fun u => some (Instr.nop0C u)) (wordOf_lowByte_highByte w)⟩
theorem TableRow.nop1C (w : Word) : TableRow.Statement (.nop1C w) :=
  ⟨.three .nop1C, rfl, rfl, congrArg (fun u => some (Instr.nop1C u)) (wordOf_lowByte_highByte w)⟩
theorem TableRow.nop3C (w : Word) : TableRow.Statement (.nop3C w) :=
  ⟨.three .nop3C, rfl, rfl, congrArg (fun u => some (Instr.nop3C u)) (wordOf_lowByte_highByte w)⟩
theorem TableRow.nop5C (w : Word) : TableRow.Statement (.nop5C w) :=
  ⟨.three .nop5C, rfl, rfl, congrArg (fun u => some (Instr.nop5C u)) (wordOf_lowByte_highByte w)⟩
theorem TableRow.nop7C (w : Word) : TableRow.Statement (.nop7C w) :=
  ⟨.three .nop7C, rfl, rfl, congrArg (fun u => some (Instr.nop7C u)) (wordOf_lowByte_highByte w)⟩
theorem TableRow.nopDC (w : Word) : TableRow.Statement (.nopDC w) :=
  ⟨.three .nopDC, rfl, rfl, congrArg (fun u => some (Instr.nopDC u)) (wordOf_lowByte_highByte w)⟩
theorem TableRow.nopFC (w : Word) : TableRow.Statement (.nopFC w) :=
  ⟨.three .nopFC, rfl, rfl, congrArg (fun u => some (Instr.nopFC u)) (wordOf_lowByte_highByte w)⟩

end Sys2Proof.Laws
end

