-- ==== Sys2Proof/Laws/Shapes.lean ====
section
/-! SUPPORT. Every instruction has one of a few shapes, said once: a property of every instruction is a case split over
the shapes and, within one, over the operations. -/

namespace Sys2Proof.Machine

/-- The operations that read an operand, and what they do with it. -/
inductive ReadOp : Operation → (Byte → State → State) → Prop
  | adc : ReadOp .ADC opAdc
  | sbc : ReadOp .SBC opSbc
  | and : ReadOp .AND opAnd
  | ora : ReadOp .ORA opOra
  | eor : ReadOp .EOR opEor
  | bit : ReadOp .BIT opBit
  | cmp : ReadOp .CMP opCmp
  | cpx : ReadOp .CPX opCpx
  | cpy : ReadOp .CPY opCpy
  | lda : ReadOp .LDA opLda
  | ldx : ReadOp .LDX opLdx
  | ldy : ReadOp .LDY opLdy
  | lax : ReadOp .LAX opLax

/-- The operations that change `A` or a memory byte, and what they compute. -/
inductive ModifyOp : Operation → (Byte → Flags → Byte × Flags) → Prop
  | inc : ModifyOp .INC aluInc
  | dec : ModifyOp .DEC aluDec
  | asl : ModifyOp .ASL aluAsl
  | lsr : ModifyOp .LSR aluLsr
  | rol : ModifyOp .ROL aluRol
  | ror : ModifyOp .ROR aluRor

/-- The stores, and the register each stores. -/
inductive StoreOp : Operation → (State → Byte) → Prop
  | sta : StoreOp .STA State.a
  | stx : StoreOp .STX State.x
  | sty : StoreOp .STY State.y

/-- The operations without an operand, and what they do. -/
inductive ImpliedOp : Operation → (State → State) → Prop
  | inx : ImpliedOp .INX opInx
  | iny : ImpliedOp .INY opIny
  | dex : ImpliedOp .DEX opDex
  | dey : ImpliedOp .DEY opDey
  | tax : ImpliedOp .TAX opTax
  | tay : ImpliedOp .TAY opTay
  | txa : ImpliedOp .TXA opTxa
  | tya : ImpliedOp .TYA opTya
  | tsx : ImpliedOp .TSX opTsx
  | txs : ImpliedOp .TXS opTxs
  | pha : ImpliedOp .PHA opPha
  | php : ImpliedOp .PHP opPhp
  | pla : ImpliedOp .PLA opPla
  | plp : ImpliedOp .PLP opPlp
  | clc : ImpliedOp .CLC opClc
  | sec : ImpliedOp .SEC opSec
  | cli : ImpliedOp .CLI opCli
  | sei : ImpliedOp .SEI opSei
  | cld : ImpliedOp .CLD opCld
  | sed : ImpliedOp .SED opSed
  | clv : ImpliedOp .CLV opClv
  | nop : ImpliedOp .NOP opNop

/-- The branches, and their conditions. -/
inductive BranchOp : Operation → (State → Bool) → Prop
  | bcc : BranchOp .BCC fun s => !s.p.c
  | bcs : BranchOp .BCS fun s => s.p.c
  | beq : BranchOp .BEQ fun s => s.p.z
  | bmi : BranchOp .BMI fun s => s.p.n
  | bne : BranchOp .BNE fun s => !s.p.z
  | bpl : BranchOp .BPL fun s => !s.p.n
  | bvc : BranchOp .BVC fun s => !s.p.v
  | bvs : BranchOp .BVS fun s => s.p.v

/-- The other control transfers, with their operands, and what they do. -/
inductive TransferOp : Operation → Operand → (State → State) → Prop
  | jmp (w : Word) : TransferOp .JMP (.jabs w) (opJmp w)
  | jmpIndirect (w : Word) : TransferOp .JMP (.jind w) (opJmpIndirect w)
  | jsr (w : Word) : TransferOp .JSR (.jabs w) (opJsr w)
  | rts : TransferOp .RTS .imp opRts
  | brk : TransferOp .BRK .imp takeTrap
  | rti : TransferOp .RTI .imp returnFromTrap

/-- A read operand as the operand of a row. -/
def sourceOperand : Source → Operand
  | .imm v => .imm v
  | .mem m => .mem m

/-- A place as the operand of a row. -/
def placeOperand : Place → Operand
  | .acc => .acc
  | .mem m => .mem m

/-- A mode whose operand crosses a page for some index. -/
def indexedMode : Mode → Bool
  | .ABX | .ABY | .IZY => true
  | _ => false

/-- The shape of an instruction: its row, and its meaning over the shared operations. -/
inductive Shape (i : Instr) : Prop
  | read (f : Byte → State → State) (src : Source) (op : ReadOp i.row.operation f)
      (operand : i.row.operand = sourceOperand src) (penalty : i.row.pagePenalty = indexedMode (sourceOperand src).mode)
      (size : (encode i).length = sourceSize src) (meaning : ∀ s, exec i s = readInstr f src i.row.baseCycles s)
  | modify (f : Byte → Flags → Byte × Flags) (place : Place) (op : ModifyOp i.row.operation f)
      (operand : i.row.operand = placeOperand place) (penalty : i.row.pagePenalty = false)
      (size : (encode i).length = (placeOperand place).mode.size)
      (meaning : ∀ s, exec i s = modifyInstr f place i.row.baseCycles s)
  | store (v : State → Byte) (m : MemOperand) (op : StoreOp i.row.operation v) (operand : i.row.operand = .mem m)
      (penalty : i.row.pagePenalty = false) (size : (encode i).length = memSizeOf m)
      (meaning : ∀ s, exec i s = storeInstr (v s) m i.row.baseCycles s)
  | implied (f : State → State) (op : ImpliedOp i.row.operation f) (operand : i.row.operand = .imp)
      (size : (encode i).length = 1) (meaning : ∀ s, exec i s = impliedInstr f i.row.baseCycles s)
  | branch (taken : State → Bool) (off : Byte) (op : BranchOp i.row.operation taken) (operand : i.row.operand = .rel off)
      (meaning : ∀ s, exec i s = branchInstr (taken s) off i.row.baseCycles s)
  | transfer (f : State → State) (op : TransferOp i.row.operation i.row.operand f)
      (meaning : ∀ s, exec i s = transferInstr f i.row.baseCycles s)
  | nopMem (m : MemOperand) (op : i.row.operation = .NOP) (operand : i.row.operand = .mem m)
      (penalty : i.row.pagePenalty = indexedMode m.mode) (size : (encode i).length = memSizeOf m)
      (meaning : ∀ s, exec i s = nopInstr m i.row.baseCycles s)
  | nopImm (v : Byte) (op : i.row.operation = .NOP) (operand : i.row.operand = .imm v) (size : (encode i).length = 2)
      (meaning : ∀ s, exec i s = .next (advance 2 i.row.baseCycles s))

/-- Every instruction has its shape. -/
theorem shape (i : Instr) : Shape i :=
  match i with
  | .adcImm v => .read opAdc (.imm v) .adc rfl rfl rfl fun _ => rfl
  | .adcZp z => .read opAdc (.mem (.zp z)) .adc rfl rfl rfl fun _ => rfl
  | .adcZpx z => .read opAdc (.mem (.zpx z)) .adc rfl rfl rfl fun _ => rfl
  | .adcAbs w => .read opAdc (.mem (.abs w)) .adc rfl rfl rfl fun _ => rfl
  | .adcAbx w => .read opAdc (.mem (.abx w)) .adc rfl rfl rfl fun _ => rfl
  | .adcAby w => .read opAdc (.mem (.aby w)) .adc rfl rfl rfl fun _ => rfl
  | .adcIzx z => .read opAdc (.mem (.izx z)) .adc rfl rfl rfl fun _ => rfl
  | .adcIzy z => .read opAdc (.mem (.izy z)) .adc rfl rfl rfl fun _ => rfl
  | .sbcImm v => .read opSbc (.imm v) .sbc rfl rfl rfl fun _ => rfl
  | .sbcZp z => .read opSbc (.mem (.zp z)) .sbc rfl rfl rfl fun _ => rfl
  | .sbcZpx z => .read opSbc (.mem (.zpx z)) .sbc rfl rfl rfl fun _ => rfl
  | .sbcAbs w => .read opSbc (.mem (.abs w)) .sbc rfl rfl rfl fun _ => rfl
  | .sbcAbx w => .read opSbc (.mem (.abx w)) .sbc rfl rfl rfl fun _ => rfl
  | .sbcAby w => .read opSbc (.mem (.aby w)) .sbc rfl rfl rfl fun _ => rfl
  | .sbcIzx z => .read opSbc (.mem (.izx z)) .sbc rfl rfl rfl fun _ => rfl
  | .sbcIzy z => .read opSbc (.mem (.izy z)) .sbc rfl rfl rfl fun _ => rfl
  | .andImm v => .read opAnd (.imm v) .and rfl rfl rfl fun _ => rfl
  | .andZp z => .read opAnd (.mem (.zp z)) .and rfl rfl rfl fun _ => rfl
  | .andZpx z => .read opAnd (.mem (.zpx z)) .and rfl rfl rfl fun _ => rfl
  | .andAbs w => .read opAnd (.mem (.abs w)) .and rfl rfl rfl fun _ => rfl
  | .andAbx w => .read opAnd (.mem (.abx w)) .and rfl rfl rfl fun _ => rfl
  | .andAby w => .read opAnd (.mem (.aby w)) .and rfl rfl rfl fun _ => rfl
  | .andIzx z => .read opAnd (.mem (.izx z)) .and rfl rfl rfl fun _ => rfl
  | .andIzy z => .read opAnd (.mem (.izy z)) .and rfl rfl rfl fun _ => rfl
  | .oraImm v => .read opOra (.imm v) .ora rfl rfl rfl fun _ => rfl
  | .oraZp z => .read opOra (.mem (.zp z)) .ora rfl rfl rfl fun _ => rfl
  | .oraZpx z => .read opOra (.mem (.zpx z)) .ora rfl rfl rfl fun _ => rfl
  | .oraAbs w => .read opOra (.mem (.abs w)) .ora rfl rfl rfl fun _ => rfl
  | .oraAbx w => .read opOra (.mem (.abx w)) .ora rfl rfl rfl fun _ => rfl
  | .oraAby w => .read opOra (.mem (.aby w)) .ora rfl rfl rfl fun _ => rfl
  | .oraIzx z => .read opOra (.mem (.izx z)) .ora rfl rfl rfl fun _ => rfl
  | .oraIzy z => .read opOra (.mem (.izy z)) .ora rfl rfl rfl fun _ => rfl
  | .eorImm v => .read opEor (.imm v) .eor rfl rfl rfl fun _ => rfl
  | .eorZp z => .read opEor (.mem (.zp z)) .eor rfl rfl rfl fun _ => rfl
  | .eorZpx z => .read opEor (.mem (.zpx z)) .eor rfl rfl rfl fun _ => rfl
  | .eorAbs w => .read opEor (.mem (.abs w)) .eor rfl rfl rfl fun _ => rfl
  | .eorAbx w => .read opEor (.mem (.abx w)) .eor rfl rfl rfl fun _ => rfl
  | .eorAby w => .read opEor (.mem (.aby w)) .eor rfl rfl rfl fun _ => rfl
  | .eorIzx z => .read opEor (.mem (.izx z)) .eor rfl rfl rfl fun _ => rfl
  | .eorIzy z => .read opEor (.mem (.izy z)) .eor rfl rfl rfl fun _ => rfl
  | .bitZp z => .read opBit (.mem (.zp z)) .bit rfl rfl rfl fun _ => rfl
  | .bitAbs w => .read opBit (.mem (.abs w)) .bit rfl rfl rfl fun _ => rfl
  | .cmpImm v => .read opCmp (.imm v) .cmp rfl rfl rfl fun _ => rfl
  | .cmpZp z => .read opCmp (.mem (.zp z)) .cmp rfl rfl rfl fun _ => rfl
  | .cmpZpx z => .read opCmp (.mem (.zpx z)) .cmp rfl rfl rfl fun _ => rfl
  | .cmpAbs w => .read opCmp (.mem (.abs w)) .cmp rfl rfl rfl fun _ => rfl
  | .cmpAbx w => .read opCmp (.mem (.abx w)) .cmp rfl rfl rfl fun _ => rfl
  | .cmpAby w => .read opCmp (.mem (.aby w)) .cmp rfl rfl rfl fun _ => rfl
  | .cmpIzx z => .read opCmp (.mem (.izx z)) .cmp rfl rfl rfl fun _ => rfl
  | .cmpIzy z => .read opCmp (.mem (.izy z)) .cmp rfl rfl rfl fun _ => rfl
  | .cpxImm v => .read opCpx (.imm v) .cpx rfl rfl rfl fun _ => rfl
  | .cpxZp z => .read opCpx (.mem (.zp z)) .cpx rfl rfl rfl fun _ => rfl
  | .cpxAbs w => .read opCpx (.mem (.abs w)) .cpx rfl rfl rfl fun _ => rfl
  | .cpyImm v => .read opCpy (.imm v) .cpy rfl rfl rfl fun _ => rfl
  | .cpyZp z => .read opCpy (.mem (.zp z)) .cpy rfl rfl rfl fun _ => rfl
  | .cpyAbs w => .read opCpy (.mem (.abs w)) .cpy rfl rfl rfl fun _ => rfl
  | .incZp z => .modify aluInc (.mem (.zp z)) .inc rfl rfl rfl fun _ => rfl
  | .incZpx z => .modify aluInc (.mem (.zpx z)) .inc rfl rfl rfl fun _ => rfl
  | .incAbs w => .modify aluInc (.mem (.abs w)) .inc rfl rfl rfl fun _ => rfl
  | .incAbx w => .modify aluInc (.mem (.abx w)) .inc rfl rfl rfl fun _ => rfl
  | .decZp z => .modify aluDec (.mem (.zp z)) .dec rfl rfl rfl fun _ => rfl
  | .decZpx z => .modify aluDec (.mem (.zpx z)) .dec rfl rfl rfl fun _ => rfl
  | .decAbs w => .modify aluDec (.mem (.abs w)) .dec rfl rfl rfl fun _ => rfl
  | .decAbx w => .modify aluDec (.mem (.abx w)) .dec rfl rfl rfl fun _ => rfl
  | .inx => .implied opInx .inx rfl rfl fun _ => rfl
  | .iny => .implied opIny .iny rfl rfl fun _ => rfl
  | .dex => .implied opDex .dex rfl rfl fun _ => rfl
  | .dey => .implied opDey .dey rfl rfl fun _ => rfl
  | .aslAcc => .modify aluAsl .acc .asl rfl rfl rfl fun _ => rfl
  | .aslZp z => .modify aluAsl (.mem (.zp z)) .asl rfl rfl rfl fun _ => rfl
  | .aslZpx z => .modify aluAsl (.mem (.zpx z)) .asl rfl rfl rfl fun _ => rfl
  | .aslAbs w => .modify aluAsl (.mem (.abs w)) .asl rfl rfl rfl fun _ => rfl
  | .aslAbx w => .modify aluAsl (.mem (.abx w)) .asl rfl rfl rfl fun _ => rfl
  | .lsrAcc => .modify aluLsr .acc .lsr rfl rfl rfl fun _ => rfl
  | .lsrZp z => .modify aluLsr (.mem (.zp z)) .lsr rfl rfl rfl fun _ => rfl
  | .lsrZpx z => .modify aluLsr (.mem (.zpx z)) .lsr rfl rfl rfl fun _ => rfl
  | .lsrAbs w => .modify aluLsr (.mem (.abs w)) .lsr rfl rfl rfl fun _ => rfl
  | .lsrAbx w => .modify aluLsr (.mem (.abx w)) .lsr rfl rfl rfl fun _ => rfl
  | .rolAcc => .modify aluRol .acc .rol rfl rfl rfl fun _ => rfl
  | .rolZp z => .modify aluRol (.mem (.zp z)) .rol rfl rfl rfl fun _ => rfl
  | .rolZpx z => .modify aluRol (.mem (.zpx z)) .rol rfl rfl rfl fun _ => rfl
  | .rolAbs w => .modify aluRol (.mem (.abs w)) .rol rfl rfl rfl fun _ => rfl
  | .rolAbx w => .modify aluRol (.mem (.abx w)) .rol rfl rfl rfl fun _ => rfl
  | .rorAcc => .modify aluRor .acc .ror rfl rfl rfl fun _ => rfl
  | .rorZp z => .modify aluRor (.mem (.zp z)) .ror rfl rfl rfl fun _ => rfl
  | .rorZpx z => .modify aluRor (.mem (.zpx z)) .ror rfl rfl rfl fun _ => rfl
  | .rorAbs w => .modify aluRor (.mem (.abs w)) .ror rfl rfl rfl fun _ => rfl
  | .rorAbx w => .modify aluRor (.mem (.abx w)) .ror rfl rfl rfl fun _ => rfl
  | .bcc off => .branch (fun s => !s.p.c) off .bcc rfl fun _ => rfl
  | .bcs off => .branch (fun s => s.p.c) off .bcs rfl fun _ => rfl
  | .beq off => .branch (fun s => s.p.z) off .beq rfl fun _ => rfl
  | .bmi off => .branch (fun s => s.p.n) off .bmi rfl fun _ => rfl
  | .bne off => .branch (fun s => !s.p.z) off .bne rfl fun _ => rfl
  | .bpl off => .branch (fun s => !s.p.n) off .bpl rfl fun _ => rfl
  | .bvc off => .branch (fun s => !s.p.v) off .bvc rfl fun _ => rfl
  | .bvs off => .branch (fun s => s.p.v) off .bvs rfl fun _ => rfl
  | .jmpAbs w => .transfer (opJmp w) (.jmp w) fun _ => rfl
  | .jmpInd w => .transfer (opJmpIndirect w) (.jmpIndirect w) fun _ => rfl
  | .jsr w => .transfer (opJsr w) (.jsr w) fun _ => rfl
  | .rts => .transfer opRts .rts fun _ => rfl
  | .brk => .transfer takeTrap .brk fun _ => rfl
  | .rti => .transfer returnFromTrap .rti fun _ => rfl
  | .ldaImm v => .read opLda (.imm v) .lda rfl rfl rfl fun _ => rfl
  | .ldaZp z => .read opLda (.mem (.zp z)) .lda rfl rfl rfl fun _ => rfl
  | .ldaZpx z => .read opLda (.mem (.zpx z)) .lda rfl rfl rfl fun _ => rfl
  | .ldaAbs w => .read opLda (.mem (.abs w)) .lda rfl rfl rfl fun _ => rfl
  | .ldaAbx w => .read opLda (.mem (.abx w)) .lda rfl rfl rfl fun _ => rfl
  | .ldaAby w => .read opLda (.mem (.aby w)) .lda rfl rfl rfl fun _ => rfl
  | .ldaIzx z => .read opLda (.mem (.izx z)) .lda rfl rfl rfl fun _ => rfl
  | .ldaIzy z => .read opLda (.mem (.izy z)) .lda rfl rfl rfl fun _ => rfl
  | .ldxImm v => .read opLdx (.imm v) .ldx rfl rfl rfl fun _ => rfl
  | .ldxZp z => .read opLdx (.mem (.zp z)) .ldx rfl rfl rfl fun _ => rfl
  | .ldxZpy z => .read opLdx (.mem (.zpy z)) .ldx rfl rfl rfl fun _ => rfl
  | .ldxAbs w => .read opLdx (.mem (.abs w)) .ldx rfl rfl rfl fun _ => rfl
  | .ldxAby w => .read opLdx (.mem (.aby w)) .ldx rfl rfl rfl fun _ => rfl
  | .ldyImm v => .read opLdy (.imm v) .ldy rfl rfl rfl fun _ => rfl
  | .ldyZp z => .read opLdy (.mem (.zp z)) .ldy rfl rfl rfl fun _ => rfl
  | .ldyZpx z => .read opLdy (.mem (.zpx z)) .ldy rfl rfl rfl fun _ => rfl
  | .ldyAbs w => .read opLdy (.mem (.abs w)) .ldy rfl rfl rfl fun _ => rfl
  | .ldyAbx w => .read opLdy (.mem (.abx w)) .ldy rfl rfl rfl fun _ => rfl
  | .laxZp z => .read opLax (.mem (.zp z)) .lax rfl rfl rfl fun _ => rfl
  | .laxZpy z => .read opLax (.mem (.zpy z)) .lax rfl rfl rfl fun _ => rfl
  | .laxAbs w => .read opLax (.mem (.abs w)) .lax rfl rfl rfl fun _ => rfl
  | .laxAby w => .read opLax (.mem (.aby w)) .lax rfl rfl rfl fun _ => rfl
  | .laxIzx z => .read opLax (.mem (.izx z)) .lax rfl rfl rfl fun _ => rfl
  | .laxIzy z => .read opLax (.mem (.izy z)) .lax rfl rfl rfl fun _ => rfl
  | .staZp z => .store State.a (.zp z) .sta rfl rfl rfl fun _ => rfl
  | .staZpx z => .store State.a (.zpx z) .sta rfl rfl rfl fun _ => rfl
  | .staAbs w => .store State.a (.abs w) .sta rfl rfl rfl fun _ => rfl
  | .staAbx w => .store State.a (.abx w) .sta rfl rfl rfl fun _ => rfl
  | .staAby w => .store State.a (.aby w) .sta rfl rfl rfl fun _ => rfl
  | .staIzx z => .store State.a (.izx z) .sta rfl rfl rfl fun _ => rfl
  | .staIzy z => .store State.a (.izy z) .sta rfl rfl rfl fun _ => rfl
  | .stxZp z => .store State.x (.zp z) .stx rfl rfl rfl fun _ => rfl
  | .stxZpy z => .store State.x (.zpy z) .stx rfl rfl rfl fun _ => rfl
  | .stxAbs w => .store State.x (.abs w) .stx rfl rfl rfl fun _ => rfl
  | .styZp z => .store State.y (.zp z) .sty rfl rfl rfl fun _ => rfl
  | .styZpx z => .store State.y (.zpx z) .sty rfl rfl rfl fun _ => rfl
  | .styAbs w => .store State.y (.abs w) .sty rfl rfl rfl fun _ => rfl
  | .tax => .implied opTax .tax rfl rfl fun _ => rfl
  | .tay => .implied opTay .tay rfl rfl fun _ => rfl
  | .txa => .implied opTxa .txa rfl rfl fun _ => rfl
  | .tya => .implied opTya .tya rfl rfl fun _ => rfl
  | .tsx => .implied opTsx .tsx rfl rfl fun _ => rfl
  | .txs => .implied opTxs .txs rfl rfl fun _ => rfl
  | .pha => .implied opPha .pha rfl rfl fun _ => rfl
  | .php => .implied opPhp .php rfl rfl fun _ => rfl
  | .pla => .implied opPla .pla rfl rfl fun _ => rfl
  | .plp => .implied opPlp .plp rfl rfl fun _ => rfl
  | .clc => .implied opClc .clc rfl rfl fun _ => rfl
  | .sec => .implied opSec .sec rfl rfl fun _ => rfl
  | .cli => .implied opCli .cli rfl rfl fun _ => rfl
  | .sei => .implied opSei .sei rfl rfl fun _ => rfl
  | .cld => .implied opCld .cld rfl rfl fun _ => rfl
  | .sed => .implied opSed .sed rfl rfl fun _ => rfl
  | .clv => .implied opClv .clv rfl rfl fun _ => rfl
  | .nop => .implied opNop .nop rfl rfl fun _ => rfl
  | .nop1A => .implied opNop .nop rfl rfl fun _ => rfl
  | .nop3A => .implied opNop .nop rfl rfl fun _ => rfl
  | .nop5A => .implied opNop .nop rfl rfl fun _ => rfl
  | .nop7A => .implied opNop .nop rfl rfl fun _ => rfl
  | .nopDA => .implied opNop .nop rfl rfl fun _ => rfl
  | .nopFA => .implied opNop .nop rfl rfl fun _ => rfl
  | .nop80 v => .nopImm v rfl rfl rfl fun _ => rfl
  | .nop82 v => .nopImm v rfl rfl rfl fun _ => rfl
  | .nop89 v => .nopImm v rfl rfl rfl fun _ => rfl
  | .nopC2 v => .nopImm v rfl rfl rfl fun _ => rfl
  | .nopE2 v => .nopImm v rfl rfl rfl fun _ => rfl
  | .nop04 z => .nopMem (.zp z) rfl rfl rfl rfl fun _ => rfl
  | .nop44 z => .nopMem (.zp z) rfl rfl rfl rfl fun _ => rfl
  | .nop64 z => .nopMem (.zp z) rfl rfl rfl rfl fun _ => rfl
  | .nop14 z => .nopMem (.zpx z) rfl rfl rfl rfl fun _ => rfl
  | .nop34 z => .nopMem (.zpx z) rfl rfl rfl rfl fun _ => rfl
  | .nop54 z => .nopMem (.zpx z) rfl rfl rfl rfl fun _ => rfl
  | .nop74 z => .nopMem (.zpx z) rfl rfl rfl rfl fun _ => rfl
  | .nopD4 z => .nopMem (.zpx z) rfl rfl rfl rfl fun _ => rfl
  | .nopF4 z => .nopMem (.zpx z) rfl rfl rfl rfl fun _ => rfl
  | .nop0C w => .nopMem (.abs w) rfl rfl rfl rfl fun _ => rfl
  | .nop1C w => .nopMem (.abx w) rfl rfl rfl rfl fun _ => rfl
  | .nop3C w => .nopMem (.abx w) rfl rfl rfl rfl fun _ => rfl
  | .nop5C w => .nopMem (.abx w) rfl rfl rfl rfl fun _ => rfl
  | .nop7C w => .nopMem (.abx w) rfl rfl rfl rfl fun _ => rfl
  | .nopDC w => .nopMem (.abx w) rfl rfl rfl rfl fun _ => rfl
  | .nopFC w => .nopMem (.abx w) rfl rfl rfl rfl fun _ => rfl

end Sys2Proof.Machine
end

