-- ==== Sys2Proof/Tests/Slice0.lean ====
section
/-! SUPPORT. The model's own tests: decoding from the spec's encodings, ill-formed terms refused, one step per vector
of 95_test_vectors.md, and a witness for the hypotheses of every statement that has some. -/

namespace Sys2Proof.Tests

open Sys2Proof Sys2Proof.Machine Sys2Proof.Stated

/-- Cells written into memory. -/
def poke (m : Memory) (cells : List (Word × Byte)) : Memory := cells.foldl (fun m c => m.write c.1 c.2) m

/-- A start state as 95_test_vectors.md gives it: `PC`, then `A`, `X`, `Y`, `P`, `SP`, the bytes at `PC`, other cells. -/
def start (pc : Word) (a x y p sp : Byte) (bytes : List Byte) (cells : List (Word × Byte) := []) : State :=
  { State.reset with pc := pc, a := a, x := x, y := y, p := setStatus p, sp := sp, mem := poke (Memory.load [] pc bytes) cells }

/-- Whether one step ends as given: `PC`, then `A`, `X`, `Y`, `P`, `SP`, the cycles added, and exactly these cells
written. -/
def ends (s : State) (pc : Word) (r : List Byte) (cycles : Nat) (cells : List (Word × Byte) := []) : Bool :=
  match step s with
  | .next t =>
    decide (t.pc = pc) && decide ([t.a, t.x, t.y, getStatus t.p, t.sp] = r) && decide (t.cyc = s.cyc + cycles) &&
      decide (t.mem = poke s.mem cells)
  | _ => false

/-! Decoding. Each word is written out from its row of opcode_table.json and the byte order of 30_encoding.md R80, R81:
opcode, then the operand byte, or the operand word low byte first. -/

/-- Whether each byte string decodes, under the default parameters, to exactly its instruction. -/
def decodes (l : List (List Byte × Instr)) : Bool := l.all fun e => decide ((decode defaults e.1).toOption = some (e.2, []))

theorem test_decode_adc_sbc : decodes
    [([0x69, 0x8C], .adcImm 0x8C), ([0x65, 0x8C], .adcZp 0x8C), ([0x75, 0x8C], .adcZpx 0x8C),
      ([0x6D, 0xCD, 0x3B], .adcAbs 0x3BCD), ([0x7D, 0xCD, 0x3B], .adcAbx 0x3BCD),
      ([0x79, 0xCD, 0x3B], .adcAby 0x3BCD), ([0x61, 0x8C], .adcIzx 0x8C), ([0x71, 0x8C], .adcIzy 0x8C),
      ([0xE9, 0x8C], .sbcImm 0x8C), ([0xE5, 0x8C], .sbcZp 0x8C), ([0xF5, 0x8C], .sbcZpx 0x8C),
      ([0xED, 0xCD, 0x3B], .sbcAbs 0x3BCD), ([0xFD, 0xCD, 0x3B], .sbcAbx 0x3BCD),
      ([0xF9, 0xCD, 0x3B], .sbcAby 0x3BCD), ([0xE1, 0x8C], .sbcIzx 0x8C), ([0xF1, 0x8C], .sbcIzy 0x8C)] = true := by decide

theorem test_decode_logic : decodes
    [([0x29, 0x8C], .andImm 0x8C), ([0x25, 0x8C], .andZp 0x8C), ([0x35, 0x8C], .andZpx 0x8C),
      ([0x2D, 0xCD, 0x3B], .andAbs 0x3BCD), ([0x3D, 0xCD, 0x3B], .andAbx 0x3BCD),
      ([0x39, 0xCD, 0x3B], .andAby 0x3BCD), ([0x21, 0x8C], .andIzx 0x8C), ([0x31, 0x8C], .andIzy 0x8C),
      ([0x09, 0x8C], .oraImm 0x8C), ([0x05, 0x8C], .oraZp 0x8C), ([0x15, 0x8C], .oraZpx 0x8C),
      ([0x0D, 0xCD, 0x3B], .oraAbs 0x3BCD), ([0x1D, 0xCD, 0x3B], .oraAbx 0x3BCD),
      ([0x19, 0xCD, 0x3B], .oraAby 0x3BCD), ([0x01, 0x8C], .oraIzx 0x8C), ([0x11, 0x8C], .oraIzy 0x8C),
      ([0x49, 0x8C], .eorImm 0x8C), ([0x45, 0x8C], .eorZp 0x8C), ([0x55, 0x8C], .eorZpx 0x8C),
      ([0x4D, 0xCD, 0x3B], .eorAbs 0x3BCD), ([0x5D, 0xCD, 0x3B], .eorAbx 0x3BCD),
      ([0x59, 0xCD, 0x3B], .eorAby 0x3BCD), ([0x41, 0x8C], .eorIzx 0x8C), ([0x51, 0x8C], .eorIzy 0x8C),
      ([0x24, 0x8C], .bitZp 0x8C), ([0x2C, 0xCD, 0x3B], .bitAbs 0x3BCD)] = true := by decide

theorem test_decode_compare : decodes
    [([0xC9, 0x8C], .cmpImm 0x8C), ([0xC5, 0x8C], .cmpZp 0x8C), ([0xD5, 0x8C], .cmpZpx 0x8C),
      ([0xCD, 0xCD, 0x3B], .cmpAbs 0x3BCD), ([0xDD, 0xCD, 0x3B], .cmpAbx 0x3BCD),
      ([0xD9, 0xCD, 0x3B], .cmpAby 0x3BCD), ([0xC1, 0x8C], .cmpIzx 0x8C), ([0xD1, 0x8C], .cmpIzy 0x8C),
      ([0xE0, 0x8C], .cpxImm 0x8C), ([0xE4, 0x8C], .cpxZp 0x8C), ([0xEC, 0xCD, 0x3B], .cpxAbs 0x3BCD),
      ([0xC0, 0x8C], .cpyImm 0x8C), ([0xC4, 0x8C], .cpyZp 0x8C), ([0xCC, 0xCD, 0x3B], .cpyAbs 0x3BCD)] = true := by decide

theorem test_decode_inc_dec : decodes
    [([0xE6, 0x8C], .incZp 0x8C), ([0xF6, 0x8C], .incZpx 0x8C), ([0xEE, 0xCD, 0x3B], .incAbs 0x3BCD),
      ([0xFE, 0xCD, 0x3B], .incAbx 0x3BCD), ([0xC6, 0x8C], .decZp 0x8C), ([0xD6, 0x8C], .decZpx 0x8C),
      ([0xCE, 0xCD, 0x3B], .decAbs 0x3BCD), ([0xDE, 0xCD, 0x3B], .decAbx 0x3BCD), ([0xE8], .inx), ([0xC8], .iny),
      ([0xCA], .dex), ([0x88], .dey)] = true := by decide

theorem test_decode_shift : decodes
    [([0x0A], .aslAcc), ([0x06, 0x8C], .aslZp 0x8C), ([0x16, 0x8C], .aslZpx 0x8C),
      ([0x0E, 0xCD, 0x3B], .aslAbs 0x3BCD), ([0x1E, 0xCD, 0x3B], .aslAbx 0x3BCD), ([0x4A], .lsrAcc),
      ([0x46, 0x8C], .lsrZp 0x8C), ([0x56, 0x8C], .lsrZpx 0x8C), ([0x4E, 0xCD, 0x3B], .lsrAbs 0x3BCD),
      ([0x5E, 0xCD, 0x3B], .lsrAbx 0x3BCD)] = true := by decide

theorem test_decode_rotate : decodes
    [([0x2A], .rolAcc), ([0x26, 0x8C], .rolZp 0x8C), ([0x36, 0x8C], .rolZpx 0x8C),
      ([0x2E, 0xCD, 0x3B], .rolAbs 0x3BCD), ([0x3E, 0xCD, 0x3B], .rolAbx 0x3BCD), ([0x6A], .rorAcc),
      ([0x66, 0x8C], .rorZp 0x8C), ([0x76, 0x8C], .rorZpx 0x8C), ([0x6E, 0xCD, 0x3B], .rorAbs 0x3BCD),
      ([0x7E, 0xCD, 0x3B], .rorAbx 0x3BCD)] = true := by decide

theorem test_decode_branch : decodes
    [([0x90, 0x8C], .bcc 0x8C), ([0xB0, 0x8C], .bcs 0x8C), ([0xF0, 0x8C], .beq 0x8C), ([0x30, 0x8C], .bmi 0x8C),
      ([0xD0, 0x8C], .bne 0x8C), ([0x10, 0x8C], .bpl 0x8C), ([0x50, 0x8C], .bvc 0x8C), ([0x70, 0x8C], .bvs 0x8C)] = true := by decide

theorem test_decode_jump_call_trap : decodes
    [([0x4C, 0xCD, 0x3B], .jmpAbs 0x3BCD), ([0x6C, 0xCD, 0x3B], .jmpInd 0x3BCD),
      ([0x20, 0xCD, 0x3B], .jsr 0x3BCD), ([0x60], .rts), ([0x00], .brk), ([0x40], .rti)] = true := by decide

theorem test_decode_load : decodes
    [([0xA9, 0x8C], .ldaImm 0x8C), ([0xA5, 0x8C], .ldaZp 0x8C), ([0xB5, 0x8C], .ldaZpx 0x8C),
      ([0xAD, 0xCD, 0x3B], .ldaAbs 0x3BCD), ([0xBD, 0xCD, 0x3B], .ldaAbx 0x3BCD),
      ([0xB9, 0xCD, 0x3B], .ldaAby 0x3BCD), ([0xA1, 0x8C], .ldaIzx 0x8C), ([0xB1, 0x8C], .ldaIzy 0x8C),
      ([0xA2, 0x8C], .ldxImm 0x8C), ([0xA6, 0x8C], .ldxZp 0x8C), ([0xB6, 0x8C], .ldxZpy 0x8C),
      ([0xAE, 0xCD, 0x3B], .ldxAbs 0x3BCD), ([0xBE, 0xCD, 0x3B], .ldxAby 0x3BCD), ([0xA0, 0x8C], .ldyImm 0x8C),
      ([0xA4, 0x8C], .ldyZp 0x8C), ([0xB4, 0x8C], .ldyZpx 0x8C), ([0xAC, 0xCD, 0x3B], .ldyAbs 0x3BCD),
      ([0xBC, 0xCD, 0x3B], .ldyAbx 0x3BCD)] = true := by decide

theorem test_decode_lax : decodes
    [([0xA7, 0x8C], .laxZp 0x8C), ([0xB7, 0x8C], .laxZpy 0x8C), ([0xAF, 0xCD, 0x3B], .laxAbs 0x3BCD),
      ([0xBF, 0xCD, 0x3B], .laxAby 0x3BCD), ([0xA3, 0x8C], .laxIzx 0x8C), ([0xB3, 0x8C], .laxIzy 0x8C)] = true := by decide

theorem test_decode_store : decodes
    [([0x85, 0x8C], .staZp 0x8C), ([0x95, 0x8C], .staZpx 0x8C), ([0x8D, 0xCD, 0x3B], .staAbs 0x3BCD),
      ([0x9D, 0xCD, 0x3B], .staAbx 0x3BCD), ([0x99, 0xCD, 0x3B], .staAby 0x3BCD), ([0x81, 0x8C], .staIzx 0x8C),
      ([0x91, 0x8C], .staIzy 0x8C), ([0x86, 0x8C], .stxZp 0x8C), ([0x96, 0x8C], .stxZpy 0x8C),
      ([0x8E, 0xCD, 0x3B], .stxAbs 0x3BCD), ([0x84, 0x8C], .styZp 0x8C), ([0x94, 0x8C], .styZpx 0x8C),
      ([0x8C, 0xCD, 0x3B], .styAbs 0x3BCD)] = true := by decide

theorem test_decode_transfer : decodes
    [([0xAA], .tax), ([0xA8], .tay), ([0x8A], .txa), ([0x98], .tya), ([0xBA], .tsx), ([0x9A], .txs)] = true := by decide

theorem test_decode_stack : decodes
    [([0x48], .pha), ([0x08], .php), ([0x68], .pla), ([0x28], .plp)] = true := by decide

theorem test_decode_flag : decodes
    [([0x18], .clc), ([0x38], .sec), ([0x58], .cli), ([0x78], .sei), ([0xD8], .cld), ([0xF8], .sed),
      ([0xB8], .clv)] = true := by decide

theorem test_decode_nop : decodes
    [([0xEA], .nop), ([0x1A], .nop1A), ([0x3A], .nop3A), ([0x5A], .nop5A), ([0x7A], .nop7A), ([0xDA], .nopDA),
      ([0xFA], .nopFA), ([0x80, 0x8C], .nop80 0x8C), ([0x82, 0x8C], .nop82 0x8C), ([0x89, 0x8C], .nop89 0x8C),
      ([0xC2, 0x8C], .nopC2 0x8C), ([0xE2, 0x8C], .nopE2 0x8C), ([0x04, 0x8C], .nop04 0x8C),
      ([0x44, 0x8C], .nop44 0x8C), ([0x64, 0x8C], .nop64 0x8C), ([0x14, 0x8C], .nop14 0x8C),
      ([0x34, 0x8C], .nop34 0x8C), ([0x54, 0x8C], .nop54 0x8C), ([0x74, 0x8C], .nop74 0x8C),
      ([0xD4, 0x8C], .nopD4 0x8C), ([0xF4, 0x8C], .nopF4 0x8C), ([0x0C, 0xCD, 0x3B], .nop0C 0x3BCD),
      ([0x1C, 0xCD, 0x3B], .nop1C 0x3BCD), ([0x3C, 0xCD, 0x3B], .nop3C 0x3BCD),
      ([0x5C, 0xCD, 0x3B], .nop5C 0x3BCD), ([0x7C, 0xCD, 0x3B], .nop7C 0x3BCD),
      ([0xDC, 0xCD, 0x3B], .nopDC 0x3BCD), ([0xFC, 0xCD, 0x3B], .nopFC 0x3BCD)] = true := by decide

/-- Every operand bit is read: both operand bytes at their extremes. -/
theorem test_decode_extremes : decodes
    [([0xBD, 0x00, 0x80], .ldaAbx 0x8000), ([0xBD, 0xFF, 0x00], .ldaAbx 0x00FF), ([0xB1, 0xFF], .ldaIzy 0xFF),
      ([0xD0, 0x80], .bne 0x80), ([0x4C, 0x01, 0xFE], .jmpAbs 0xFE01)] = true := by decide

/-- Too few bytes are refused, and so is a byte without a descriptor (30_encoding.md R85). -/
theorem test_decode_refuses :
    [[], [0x69], [0x6D, 0x01], [0xAB, 0x00], [0xEB, 0x00], [0x02]].all
      (fun l => decide ((decode defaults l).toOption = none)) = true := by decide

theorem test_decodeTableWord : decodeTableWord 24 0x12346C = some (.jmpInd 0x1234) ∧
    decodeTableWord 8 0xEA = some .nop ∧ decodeTableWord 8 0xFF = none := by decide

/-- A placed instruction is what the next step runs, and in the device window it is placed elsewhere (log 13). -/
theorem test_withFetchWord :
    ends (State.reset.withFetchWord 16 0x80A9) 0x0002 [0x80, 0x00, 0x00, 0xA4, 0xFF] 2 = true ∧
    ends (({ State.reset with pc := 0x1FFF }).withFetchWord 8 0xE8) 0xC001 [0x00, 0x01, 0x00, 0x24, 0xFF] 2 = true := by
  decide

/-! Well-formedness: an ill-formed term for each check. -/

/-- The default configuration less its informal opcodes. -/
def legalOnly : Config := { defaults with informalOpcodes := [] }

/-- An informal instruction is refused where its byte is not in `INFORMAL_OPCODES`; a legal one is not. -/
theorem test_wellFormed_informal :
    ¬ (Instr.laxZp 0x40).WellFormed legalOnly ∧ ¬ (Instr.nop1C 0x20FF).WellFormed legalOnly ∧
      (Instr.laxZp 0x40).WellFormed defaults ∧ (Instr.adcImm 0x01).WellFormed legalOnly := by decide

/-- A configuration that names a byte without a row as informal is refused. -/
theorem test_wellFormed_config :
    ¬ ({ defaults with informalOpcodes := [0xAB] } : Config).WellFormed ∧ defaults.WellFormed ∧
      legalOnly.WellFormed := by decide

/-- Without its byte in `INFORMAL_OPCODES` an informal opcode does not decode and traps (92_eei_decisions.md D9). -/
theorem test_informal_off_traps : decodeOpcode legalOnly 0xA7 = none ∧
    (match step { start 0x0200 0x00 0x00 0x00 0x24 0xFF [0xA7, 0x40] with cfg := legalOnly } with
      | .fault r => decide (r = .decodeError ⟨0x0200, 0xA7⟩)
      | _ => false) = true := by decide

/-! One step of each vector of 95_test_vectors.md part 2, at most two per opcode. -/

theorem test_adc_3 :
    ends (start 0x0200 0x90 0x00 0x00 0x24 0xFF [0x69, 0x90])
      0x0202 [0x20, 0x00, 0x00, 0x65, 0xFF] 2 = true := by
  decide

theorem test_adc_6 :
    ends (start 0x0200 0x09 0x00 0x00 0x2C 0xFF [0x69, 0x01])
      0x0202 [0x0A, 0x00, 0x00, 0x2C, 0xFF] 2 = true := by
  decide

theorem test_adc_7 :
    ends (start 0x0200 0x01 0x20 0x00 0x24 0xFF [0x75, 0xF0] [(0x0010, 0x02)])
      0x0202 [0x03, 0x20, 0x00, 0x24, 0xFF] 4 = true := by
  decide

theorem test_adc_8 :
    ends (start 0x0200 0x01 0x00 0x01 0x24 0xFF [0x79, 0xFF, 0x12] [(0x1300, 0x01)])
      0x0203 [0x02, 0x00, 0x01, 0x24, 0xFF] 5 = true := by
  decide

theorem test_sbc_3 :
    ends (start 0x0200 0x00 0x00 0x00 0x24 0xFF [0xE9, 0x00])
      0x0202 [0xFF, 0x00, 0x00, 0xA4, 0xFF] 2 = true := by
  decide

theorem test_sbc_4 :
    ends (start 0x0200 0x80 0x00 0x00 0x25 0xFF [0xE9, 0x01])
      0x0202 [0x7F, 0x00, 0x00, 0x65, 0xFF] 2 = true := by
  decide

theorem test_sbc_6 :
    ends (start 0x0200 0x10 0x00 0x10 0x25 0xFF [0xF1, 0x20] [(0x0020, 0xF8), (0x0021, 0x30), (0x3108, 0x05)])
      0x0202 [0x0B, 0x00, 0x10, 0x25, 0xFF] 6 = true := by
  decide

theorem test_adc_9 :
    ends (start 0x0200 0x7F 0x00 0x00 0x25 0xFF [0x65, 0xFF] [(0x00FF, 0x00)])
      0x0202 [0x80, 0x00, 0x00, 0xE4, 0xFF] 3 = true := by
  decide

theorem test_and_1 :
    ends (start 0x0200 0xF0 0x00 0x00 0x24 0xFF [0x29, 0x0F])
      0x0202 [0x00, 0x00, 0x00, 0x26, 0xFF] 2 = true := by
  decide

theorem test_and_2 :
    ends (start 0x0200 0xFF 0x00 0x00 0x26 0xFF [0x29, 0xC0])
      0x0202 [0xC0, 0x00, 0x00, 0xA4, 0xFF] 2 = true := by
  decide

theorem test_ora_1 :
    ends (start 0x0200 0x00 0x00 0x00 0x24 0xFF [0x09, 0x00])
      0x0202 [0x00, 0x00, 0x00, 0x26, 0xFF] 2 = true := by
  decide

theorem test_ora_2 :
    ends (start 0x0200 0x01 0x02 0x00 0x24 0xFF [0x01, 0x40] [(0x0042, 0x00), (0x0043, 0x04), (0x0400, 0x80)])
      0x0202 [0x81, 0x02, 0x00, 0xA4, 0xFF] 6 = true := by
  decide

theorem test_eor_1 :
    ends (start 0x0200 0xFF 0x00 0x00 0xA4 0xFF [0x49, 0xFF])
      0x0202 [0x00, 0x00, 0x00, 0x26, 0xFF] 2 = true := by
  decide

theorem test_eor_2 :
    ends (start 0x0200 0x0F 0x00 0x00 0x24 0xFF [0x49, 0xFF])
      0x0202 [0xF0, 0x00, 0x00, 0xA4, 0xFF] 2 = true := by
  decide

theorem test_bit_1 :
    ends (start 0x0200 0x00 0x00 0x00 0x24 0xFF [0x24, 0x10] [(0x0010, 0xC0)])
      0x0202 [0x00, 0x00, 0x00, 0xE6, 0xFF] 3 = true := by
  decide

theorem test_bit_2 :
    ends (start 0x0200 0x01 0x00 0x00 0xE6 0xFF [0x2C, 0x34, 0x12] [(0x1234, 0x01)])
      0x0203 [0x01, 0x00, 0x00, 0x24, 0xFF] 4 = true := by
  decide

theorem test_cmp_3 :
    ends (start 0x0200 0x00 0x00 0x00 0x24 0xFF [0xC9, 0x01])
      0x0202 [0x00, 0x00, 0x00, 0xA4, 0xFF] 2 = true := by
  decide

theorem test_cmp_4 :
    ends (start 0x0200 0xFF 0x00 0x00 0x24 0xFF [0xC9, 0x7F])
      0x0202 [0xFF, 0x00, 0x00, 0xA5, 0xFF] 2 = true := by
  decide

theorem test_cpx_1 :
    ends (start 0x0200 0x00 0x00 0x00 0x24 0xFF [0xE0, 0x00])
      0x0202 [0x00, 0x00, 0x00, 0x27, 0xFF] 2 = true := by
  decide

theorem test_cpx_2 :
    ends (start 0x0200 0x00 0x10 0x00 0x24 0xFF [0xE4, 0x20] [(0x0020, 0x20)])
      0x0202 [0x00, 0x10, 0x00, 0xA4, 0xFF] 3 = true := by
  decide

theorem test_cpy_1 :
    ends (start 0x0200 0x00 0x00 0x7F 0x24 0xFF [0xC0, 0x80])
      0x0202 [0x00, 0x00, 0x7F, 0xA4, 0xFF] 2 = true := by
  decide

theorem test_cpy_2 :
    ends (start 0x0200 0x00 0x00 0x90 0x24 0xFF [0xCC, 0x00, 0x10] [(0x1000, 0x10)])
      0x0203 [0x00, 0x00, 0x90, 0xA5, 0xFF] 4 = true := by
  decide

theorem test_inc_1 :
    ends (start 0x0200 0x00 0x00 0x00 0x24 0xFF [0xE6, 0x10] [(0x0010, 0xFF)])
      0x0202 [0x00, 0x00, 0x00, 0x26, 0xFF] 5 [(0x0010, 0x00)] = true := by
  decide

theorem test_inc_2 :
    ends (start 0x0200 0x00 0x01 0x00 0x24 0xFF [0xFE, 0xFF, 0x10] [(0x1100, 0x7F)])
      0x0203 [0x00, 0x01, 0x00, 0xA4, 0xFF] 7 [(0x1100, 0x80)] = true := by
  decide

theorem test_dec_1 :
    ends (start 0x0200 0x00 0x00 0x00 0x24 0xFF [0xC6, 0x10] [(0x0010, 0x00)])
      0x0202 [0x00, 0x00, 0x00, 0xA4, 0xFF] 5 [(0x0010, 0xFF)] = true := by
  decide

theorem test_dec_2 :
    ends (start 0x0200 0x00 0x02 0x00 0x24 0xFF [0xD6, 0xFF] [(0x0001, 0x01)])
      0x0202 [0x00, 0x02, 0x00, 0x26, 0xFF] 6 [(0x0001, 0x00)] = true := by
  decide

theorem test_inx_1 :
    ends (start 0x0200 0x00 0xFF 0x00 0x24 0xFF [0xE8]) 0x0201 [0x00, 0x00, 0x00, 0x26, 0xFF] 2 = true := by decide

theorem test_iny_1 :
    ends (start 0x0200 0x00 0x00 0x7F 0x24 0xFF [0xC8]) 0x0201 [0x00, 0x00, 0x80, 0xA4, 0xFF] 2 = true := by decide

theorem test_dex_1 :
    ends (start 0x0200 0x00 0x00 0x00 0x24 0xFF [0xCA]) 0x0201 [0x00, 0xFF, 0x00, 0xA4, 0xFF] 2 = true := by decide

theorem test_dey_1 :
    ends (start 0x0200 0x00 0x00 0x01 0x24 0xFF [0x88]) 0x0201 [0x00, 0x00, 0x00, 0x26, 0xFF] 2 = true := by decide

theorem test_asl_1 :
    ends (start 0x0200 0x80 0x00 0x00 0x24 0xFF [0x0A]) 0x0201 [0x00, 0x00, 0x00, 0x27, 0xFF] 2 = true := by decide

theorem test_asl_2 :
    ends (start 0x0200 0x00 0x00 0x00 0x25 0xFF [0x06, 0x10] [(0x0010, 0x41)])
      0x0202 [0x00, 0x00, 0x00, 0xA4, 0xFF] 5 [(0x0010, 0x82)] = true := by
  decide

theorem test_lsr_1 :
    ends (start 0x0200 0x01 0x00 0x00 0xA4 0xFF [0x4A]) 0x0201 [0x00, 0x00, 0x00, 0x27, 0xFF] 2 = true := by decide

theorem test_lsr_2 :
    ends (start 0x0200 0x00 0xCC 0x00 0x24 0xFF [0x5E, 0x34, 0x12] [(0x1300, 0xFE)])
      0x0203 [0x00, 0xCC, 0x00, 0x24, 0xFF] 7 [(0x1300, 0x7F)] = true := by
  decide

theorem test_rol_1 :
    ends (start 0x0200 0x80 0x00 0x00 0x24 0xFF [0x2A]) 0x0201 [0x00, 0x00, 0x00, 0x27, 0xFF] 2 = true := by decide

theorem test_rol_2 :
    ends (start 0x0200 0x40 0x00 0x00 0x25 0xFF [0x2A]) 0x0201 [0x81, 0x00, 0x00, 0xA4, 0xFF] 2 = true := by decide

theorem test_ror_1 :
    ends (start 0x0200 0x01 0x00 0x00 0x24 0xFF [0x6A]) 0x0201 [0x00, 0x00, 0x00, 0x27, 0xFF] 2 = true := by decide

theorem test_ror_2 :
    ends (start 0x0200 0x00 0x00 0x00 0x25 0xFF [0x66, 0x20] [(0x0020, 0x02)])
      0x0202 [0x00, 0x00, 0x00, 0xA4, 0xFF] 5 [(0x0020, 0x81)] = true := by
  decide

theorem test_br_1 :
    ends (start 0x1000 0x00 0x00 0x00 0x25 0xFF [0x90, 0x10])
      0x1002 [0x00, 0x00, 0x00, 0x25, 0xFF] 2 = true := by
  decide

theorem test_br_2 :
    ends (start 0x10F0 0x00 0x00 0x00 0x24 0xFF [0x90, 0x10])
      0x1102 [0x00, 0x00, 0x00, 0x24, 0xFF] 4 = true := by
  decide

theorem test_br_3 :
    ends (start 0x0200 0x00 0x00 0x00 0x24 0xFF [0xD0, 0x0E])
      0x0210 [0x00, 0x00, 0x00, 0x24, 0xFF] 3 = true := by
  decide

theorem test_br_4 :
    ends (start 0x0200 0x00 0x00 0x00 0x26 0xFF [0xF0, 0xF0])
      0x01F2 [0x00, 0x00, 0x00, 0x26, 0xFF] 4 = true := by
  decide

theorem test_br_5 :
    ends (start 0x0200 0x00 0x00 0x00 0x26 0xFF [0xF0, 0x00])
      0x0202 [0x00, 0x00, 0x00, 0x26, 0xFF] 3 = true := by
  decide

theorem test_br_6 :
    ends (start 0x0200 0x00 0x00 0x00 0x24 0xFF [0x10, 0xFE])
      0x0200 [0x00, 0x00, 0x00, 0x24, 0xFF] 3 = true := by
  decide

theorem test_br_7 :
    ends (start 0x0300 0x00 0x00 0x00 0xA4 0xFF [0x30, 0x80])
      0x0282 [0x00, 0x00, 0x00, 0xA4, 0xFF] 4 = true := by
  decide

theorem test_br_8 :
    ends (start 0x0200 0x00 0x00 0x00 0x64 0xFF [0x50, 0x0E])
      0x0202 [0x00, 0x00, 0x00, 0x64, 0xFF] 2 = true := by
  decide

theorem test_br_9 :
    ends (start 0x0200 0x00 0x00 0x00 0x64 0xFF [0x70, 0x0E])
      0x0210 [0x00, 0x00, 0x00, 0x64, 0xFF] 3 = true := by
  decide

theorem test_br_10 :
    ends (start 0xFFFE 0x00 0x00 0x00 0x25 0xFF [0xB0, 0x05])
      0x0005 [0x00, 0x00, 0x00, 0x25, 0xFF] 3 = true := by
  decide

theorem test_jmp_1 :
    ends (start 0x0200 0x00 0x00 0x00 0x24 0xFF [0x4C, 0xF5, 0xC5])
      0xC5F5 [0x00, 0x00, 0x00, 0x24, 0xFF] 3 = true := by
  decide

theorem test_jmp_2 :
    ends (start 0x0200 0x00 0x00 0x00 0x24 0xFF [0x6C, 0xFF, 0x30] [(0x3000, 0x50), (0x30FF, 0x80), (0x3100, 0x40)])
      0x5080 [0x00, 0x00, 0x00, 0x24, 0xFF] 5 = true := by
  decide

theorem test_jmp_3 :
    ends (start 0x0200 0x00 0x00 0x00 0x24 0xFF [0x6C, 0x00, 0x30] [(0x3000, 0x34), (0x3001, 0x12)])
      0x1234 [0x00, 0x00, 0x00, 0x24, 0xFF] 5 = true := by
  decide

theorem test_jsr_1 :
    ends (start 0xC000 0x00 0x00 0x00 0x24 0xFD [0x20, 0x00, 0xC1])
      0xC100 [0x00, 0x00, 0x00, 0x24, 0xFB] 6 [(0x01FC, 0x02), (0x01FD, 0xC0)] = true := by
  decide

theorem test_jsr_2 :
    ends (start 0x0200 0x00 0x00 0x00 0x24 0x00 [0x20, 0x00, 0x03])
      0x0300 [0x00, 0x00, 0x00, 0x24, 0xFE] 6 [(0x0100, 0x02), (0x01FF, 0x02)] = true := by
  decide

theorem test_rts_1 :
    ends (start 0xC100 0x00 0x00 0x00 0x24 0xFB [0x60] [(0x01FC, 0x02), (0x01FD, 0xC0)])
      0xC003 [0x00, 0x00, 0x00, 0x24, 0xFD] 6 = true := by
  decide

theorem test_rts_2 :
    ends (start 0x0200 0x00 0x00 0x00 0x24 0xFF [0x60] [(0x0100, 0xFF), (0x0101, 0x12)])
      0x1300 [0x00, 0x00, 0x00, 0x24, 0x01] 6 = true := by
  decide

theorem test_brk_2 :
    ends (start 0x0400 0x00 0x00 0x00 0xE3 0xFF [0x00] [(0xFFFE, 0x00), (0xFFFF, 0x90)])
      0x9000 [0x00, 0x00, 0x00, 0xE7, 0xFC] 7 [(0x01FD, 0xF3), (0x01FF, 0x04)] = true := by
  decide

theorem test_brk_3 :
    ends { start 0x0400 0x00 0x00 0x00 0x24 0xFF [0x00] [(0xFFFE, 0x00), (0xFFFF, 0x90)] with cfg := { defaults with brkReturnOffset := 2 } }
      0x9000 [0x00, 0x00, 0x00, 0x24, 0xFC] 7 [(0x01FD, 0x34), (0x01FE, 0x02), (0x01FF, 0x04)] = true := by
  decide

theorem test_rti_1 :
    ends (start 0x9000 0x00 0x00 0x00 0x24 0xFC [0x40] [(0x01FD, 0x34), (0x01FE, 0x00), (0x01FF, 0x04)])
      0x0400 [0x00, 0x00, 0x00, 0x24, 0xFF] 6 = true := by
  decide

theorem test_rti_2 :
    ends (start 0x9000 0x00 0x00 0x00 0x24 0xFC [0x40] [(0x01FD, 0xFF), (0x01FE, 0x34), (0x01FF, 0x12)])
      0x1234 [0x00, 0x00, 0x00, 0xEF, 0xFF] 6 = true := by
  decide

theorem test_lda_1 :
    ends (start 0x0200 0x55 0x00 0x00 0xA4 0xFF [0xA9, 0x00])
      0x0202 [0x00, 0x00, 0x00, 0x26, 0xFF] 2 = true := by
  decide

theorem test_lda_2 :
    ends (start 0x0200 0x00 0x00 0x00 0x26 0xFF [0xA9, 0x80])
      0x0202 [0x80, 0x00, 0x00, 0xA4, 0xFF] 2 = true := by
  decide

theorem test_lda_3 :
    ends (start 0x0200 0x00 0x90 0x00 0x24 0xFF [0xB5, 0x80] [(0x0010, 0x42), (0x0110, 0x99)])
      0x0202 [0x42, 0x90, 0x00, 0x24, 0xFF] 4 = true := by
  decide

theorem test_lda_4 :
    ends (start 0x0200 0x00 0x01 0x00 0x24 0xFF [0xBD, 0xFF, 0xFF] [(0x0000, 0x11)])
      0x0203 [0x11, 0x01, 0x00, 0x24, 0xFF] 5 = true := by
  decide

theorem test_lda_5 :
    ends (start 0x0200 0x00 0x00 0x00 0x24 0xFF [0xA1, 0xFF] [(0x0000, 0x12), (0x00FF, 0x34), (0x0100, 0x56), (0x1234, 0x77), (0x5634, 0x88)])
      0x0202 [0x77, 0x00, 0x00, 0x24, 0xFF] 6 = true := by
  decide

theorem test_lda_6 :
    ends (start 0x0200 0x00 0x00 0x01 0x24 0xFF [0xB1, 0xFF] [(0x0000, 0x12), (0x00FF, 0xFF), (0x1300, 0x66)])
      0x0202 [0x66, 0x00, 0x01, 0x24, 0xFF] 6 = true := by
  decide

theorem test_ldx_1 :
    ends (start 0x0200 0x00 0x00 0x02 0x24 0xFF [0xB6, 0xFF] [(0x0001, 0xFE)])
      0x0202 [0x00, 0xFE, 0x02, 0xA4, 0xFF] 4 = true := by
  decide

theorem test_ldx_2 :
    ends (start 0x0200 0x00 0x00 0x20 0x24 0xFF [0xBE, 0xF0, 0x12] [(0x1310, 0x00)])
      0x0203 [0x00, 0x00, 0x20, 0x26, 0xFF] 5 = true := by
  decide

theorem test_ldy_1 :
    ends (start 0x0200 0x00 0x00 0x00 0xA6 0xFF [0xA0, 0x7F])
      0x0202 [0x00, 0x00, 0x7F, 0x24, 0xFF] 2 = true := by
  decide

theorem test_lax_1 :
    ends (start 0x0200 0x00 0x00 0x00 0x24 0xFF [0xA7, 0x40] [(0x0040, 0x55)])
      0x0202 [0x55, 0x55, 0x00, 0x24, 0xFF] 3 = true := by
  decide

theorem test_lax_2 :
    ends (start 0x0200 0x00 0x00 0x10 0x24 0xFF [0xB3, 0x40] [(0x0040, 0xF8), (0x0041, 0x12), (0x1308, 0x80)])
      0x0202 [0x80, 0x80, 0x10, 0xA4, 0xFF] 6 = true := by
  decide

theorem test_sta_1 :
    ends (start 0x0200 0xAB 0x01 0x00 0x24 0xFF [0x95, 0xFF])
      0x0202 [0xAB, 0x01, 0x00, 0x24, 0xFF] 4 [(0x0000, 0xAB)] = true := by
  decide

theorem test_sta_2 :
    ends (start 0x0200 0xCD 0x00 0x01 0x24 0xFF [0x99, 0xFF, 0x12])
      0x0203 [0xCD, 0x00, 0x01, 0x24, 0xFF] 5 [(0x1300, 0xCD)] = true := by
  decide

theorem test_sta_3 :
    ends (start 0x0200 0xEF 0x00 0xFF 0x24 0xFF [0x91, 0x20] [(0x0020, 0x01), (0x0021, 0x04)])
      0x0202 [0xEF, 0x00, 0xFF, 0x24, 0xFF] 6 [(0x0500, 0xEF)] = true := by
  decide

theorem test_stx_1 :
    ends (start 0x0200 0x00 0x33 0xF5 0x24 0xFF [0x96, 0x10])
      0x0202 [0x00, 0x33, 0xF5, 0x24, 0xFF] 4 [(0x0005, 0x33)] = true := by
  decide

theorem test_sty_1 :
    ends (start 0x0200 0x00 0x00 0x44 0x24 0xFF [0x8C, 0x00, 0x03])
      0x0203 [0x00, 0x00, 0x44, 0x24, 0xFF] 4 [(0x0300, 0x44)] = true := by
  decide

theorem test_lda_7 :
    ends { start 0x0200 0x00 0x00 0x00 0x24 0xFF [0xA1, 0xFF] [(0x0000, 0x12), (0x00FF, 0x34), (0x0100, 0x56), (0x1234, 0x77), (0x5634, 0x88)] with cfg := { defaults with zpPointerWrap := false } }
      0x0202 [0x88, 0x00, 0x00, 0xA4, 0xFF] 6 = true := by
  decide

theorem test_lda_8 :
    ends { start 0x0200 0x00 0x00 0x01 0x24 0xFF [0xB1, 0xFF] [(0x0000, 0x12), (0x00FF, 0xFF), (0x0100, 0x20), (0x1300, 0x66), (0x2100, 0x99)] with cfg := { defaults with zpPointerWrap := false } }
      0x0202 [0x99, 0x00, 0x01, 0xA4, 0xFF] 6 = true := by
  decide

theorem test_tax_1 :
    ends (start 0x0200 0x00 0x55 0x00 0x24 0xFF [0xAA]) 0x0201 [0x00, 0x00, 0x00, 0x26, 0xFF] 2 = true := by decide

theorem test_tay_1 :
    ends (start 0x0200 0x80 0x00 0x00 0x24 0xFF [0xA8]) 0x0201 [0x80, 0x00, 0x80, 0xA4, 0xFF] 2 = true := by decide

theorem test_txa_1 :
    ends (start 0x0200 0xFF 0x01 0x00 0xA4 0xFF [0x8A]) 0x0201 [0x01, 0x01, 0x00, 0x24, 0xFF] 2 = true := by decide

theorem test_tya_1 :
    ends (start 0x0200 0x00 0x00 0xF0 0x24 0xFF [0x98]) 0x0201 [0xF0, 0x00, 0xF0, 0xA4, 0xFF] 2 = true := by decide

theorem test_tsx_1 :
    ends (start 0x0200 0x00 0x00 0x00 0x24 0x00 [0xBA]) 0x0201 [0x00, 0x00, 0x00, 0x26, 0x00] 2 = true := by decide

theorem test_txs_1 :
    ends (start 0x0200 0x00 0x00 0x00 0x24 0xFF [0x9A]) 0x0201 [0x00, 0x00, 0x00, 0x24, 0x00] 2 = true := by decide

theorem test_txs_2 :
    ends { start 0x0200 0x00 0x00 0x00 0x24 0xFF [0x9A] with cfg := { defaults with txsSetsNz := true } }
      0x0201 [0x00, 0x00, 0x00, 0x26, 0x00] 2 = true := by
  decide

theorem test_pha_1 :
    ends (start 0x0200 0x5A 0x00 0x00 0x24 0xFF [0x48])
      0x0201 [0x5A, 0x00, 0x00, 0x24, 0xFE] 3 [(0x01FF, 0x5A)] = true := by
  decide

theorem test_pha_2 :
    ends (start 0x0200 0x5A 0x00 0x00 0x24 0x00 [0x48])
      0x0201 [0x5A, 0x00, 0x00, 0x24, 0xFF] 3 [(0x0100, 0x5A)] = true := by
  decide

theorem test_php_1 :
    ends (start 0x0200 0x00 0x00 0x00 0x24 0xFF [0x08])
      0x0201 [0x00, 0x00, 0x00, 0x24, 0xFE] 3 [(0x01FF, 0x34)] = true := by
  decide

theorem test_php_2 :
    ends (start 0x0200 0x00 0x00 0x00 0xEF 0xFF [0x08])
      0x0201 [0x00, 0x00, 0x00, 0xEF, 0xFE] 3 [(0x01FF, 0xFF)] = true := by
  decide

theorem test_pla_1 :
    ends (start 0x0200 0x00 0x00 0x00 0x24 0xFE [0x68] [(0x01FF, 0x00)])
      0x0201 [0x00, 0x00, 0x00, 0x26, 0xFF] 4 = true := by
  decide

theorem test_pla_2 :
    ends (start 0x0200 0x00 0x00 0x00 0x24 0xFF [0x68] [(0x0100, 0x80)])
      0x0201 [0x80, 0x00, 0x00, 0xA4, 0x00] 4 = true := by
  decide

theorem test_plp_1 :
    ends (start 0x0200 0x00 0x00 0x00 0x24 0xFE [0x28] [(0x01FF, 0xC3)])
      0x0201 [0x00, 0x00, 0x00, 0xE3, 0xFF] 4 = true := by
  decide

theorem test_plp_2 :
    ends (start 0x0200 0x00 0x00 0x00 0x24 0xFE [0x28] [(0x01FF, 0x10)])
      0x0201 [0x00, 0x00, 0x00, 0x20, 0xFF] 4 = true := by
  decide

theorem test_clc_1 :
    ends (start 0x0200 0x00 0x00 0x00 0xE7 0xFF [0x18]) 0x0201 [0x00, 0x00, 0x00, 0xE6, 0xFF] 2 = true := by decide

theorem test_sec_1 :
    ends (start 0x0200 0x00 0x00 0x00 0x24 0xFF [0x38]) 0x0201 [0x00, 0x00, 0x00, 0x25, 0xFF] 2 = true := by decide

theorem test_cli_1 :
    ends (start 0x0200 0x00 0x00 0x00 0x24 0xFF [0x58]) 0x0201 [0x00, 0x00, 0x00, 0x20, 0xFF] 2 = true := by decide

theorem test_sei_1 :
    ends (start 0x0200 0x00 0x00 0x00 0x20 0xFF [0x78]) 0x0201 [0x00, 0x00, 0x00, 0x24, 0xFF] 2 = true := by decide

theorem test_cld_1 :
    ends (start 0x0200 0x00 0x00 0x00 0x2C 0xFF [0xD8]) 0x0201 [0x00, 0x00, 0x00, 0x24, 0xFF] 2 = true := by decide

theorem test_sed_1 :
    ends (start 0x0200 0x00 0x00 0x00 0x24 0xFF [0xF8]) 0x0201 [0x00, 0x00, 0x00, 0x2C, 0xFF] 2 = true := by decide

theorem test_clv_1 :
    ends (start 0x0200 0x00 0x00 0x00 0x64 0xFF [0xB8]) 0x0201 [0x00, 0x00, 0x00, 0x24, 0xFF] 2 = true := by decide

theorem test_nop_1 :
    ends (start 0x0200 0x12 0x00 0x00 0xA5 0xFF [0xEA]) 0x0201 [0x12, 0x00, 0x00, 0xA5, 0xFF] 2 = true := by decide

theorem test_nop_2 :
    ends (start 0x0200 0x00 0x00 0x00 0x24 0xFF [0x1A]) 0x0201 [0x00, 0x00, 0x00, 0x24, 0xFF] 2 = true := by decide

theorem test_nop_3 :
    ends (start 0x0200 0x00 0x00 0x00 0x24 0xFF [0x80, 0xFF])
      0x0202 [0x00, 0x00, 0x00, 0x24, 0xFF] 2 = true := by
  decide

theorem test_nop_4 :
    ends (start 0x0200 0x00 0x00 0x00 0x24 0xFF [0x04, 0x10])
      0x0202 [0x00, 0x00, 0x00, 0x24, 0xFF] 3 = true := by
  decide

theorem test_nop_5 :
    ends (start 0x0200 0x00 0x05 0x00 0x24 0xFF [0x14, 0x10])
      0x0202 [0x00, 0x05, 0x00, 0x24, 0xFF] 4 = true := by
  decide

theorem test_nop_6 :
    ends (start 0x0200 0x00 0x00 0x00 0x24 0xFF [0x0C, 0x34, 0x12])
      0x0203 [0x00, 0x00, 0x00, 0x24, 0xFF] 4 = true := by
  decide

theorem test_nop_7 :
    ends (start 0x0200 0x00 0x01 0x00 0x24 0xFF [0x1C, 0xFF, 0x20])
      0x0203 [0x00, 0x01, 0x00, 0x24, 0xFF] 5 = true := by
  decide

theorem test_nop_8 :
    ends (start 0x0200 0x00 0x01 0x00 0x24 0xFF [0x1C, 0x00, 0x20])
      0x0203 [0x00, 0x01, 0x00, 0x24, 0xFF] 4 = true := by
  decide

/-- V-UND-02 to V-UND-FF: the decode error, with nothing changed but the latch. -/
theorem test_und : [0x02, 0x03, 0x0B, 0x12, 0x8B, 0x9C, 0xAB, 0xEB, (0xFF : Byte)].all (fun op =>
    let s := start 0x0200 0x11 0x00 0x00 0x24 0xFF [op, 0x00, 0x00]
    (match step s with
      | .fault r => decide (r = .decodeError ⟨0x0200, op⟩)
      | _ => false) && decide (stepLatched s = { s with fault := some ⟨0x0200, op⟩ })) = true := by decide

/-! The device window, the status byte, reset, loading and the trace. -/

/-- A store to 0x2007 is an event and changes no cell (20_memory.md R63). -/
theorem test_window_store :
    (match step (start 0x0200 0x5A 0x00 0x00 0x24 0xFF [0x8D, 0x07, 0x20] [(0x2007, 0x99)]) with
      | .next t => decide (t.ppuLog = [.write 0x2007 0x5A]) && decide (t.mem.read 0x2007 = 0x99)
      | _ => false) = true := by decide

/-- A read-modify-write of 0x4014 is one read, then one write (30_encoding.md R112, 20_memory.md R62, R63). -/
theorem test_window_modify :
    (match step (start 0x0200 0x00 0x00 0x00 0x24 0xFF [0xEE, 0x14, 0x40]) with
      | .next t => decide (t.ppuLog.map ppuEventAddress = [0x4014, 0x4014]) && decide (t.cyc = 6)
      | _ => false) = true := by decide

/-- V-NOP-8 with `NOP_READS_OPERAND`: the device sees the read of 0x2001. -/
theorem test_nop_reads_operand :
    (match step { start 0x0200 0x00 0x01 0x00 0x24 0xFF [0x1C, 0x00, 0x20] with
        cfg := { defaults with nopReadsOperand := true } } with
      | .next t => decide (t.ppuLog = [.read 0x2001])
      | _ => false) = true := by decide

/-- E13: packing and unpacking the status byte. -/
theorem test_status_byte : getStatus (setStatus 0x00) = 0x20 ∧ getStatus (setStatus 0xDF) = 0xFF ∧
    getStatus (pullStatus defaults 0x10 (setStatus 0x24)) = 0x20 ∧
    getStatus (pullStatus { defaults with pullLoadsB := true } 0x10 (setStatus 0x24)) = 0x30 := by decide

/-- E14 and the start of P1-P5: a loaded image, then reset, seeds `PC` from the vector. -/
theorem test_reset_seeds_pc :
    let t := resetMachine (loadRom [0x00, 0xC0] 0xFFFC (construct defaults [] 0xABCD))
    t.pc = 0xC000 ∧ t.sp = 0xFF ∧ getStatus t.p = 0x24 ∧ t.cyc = 0 ∧ t.pcSeeded = true := by decide

/-- `ENTRY_PC` from the host, `RESET_SP` and `RESET_CYCLES` (70_reset_and_hazards.md R350, 00_scope.md R10). -/
theorem test_reset_parameters :
    let c := { defaults with entryPc := .address 0xC000, resetSp := 0xFD, resetCycles := 7 }
    let t := resetMachine (construct c [] 0xABCD)
    t.pc = 0xC000 ∧ t.sp = 0xFD ∧ t.cyc = 7 := by decide

/-- A bounded counter wraps (10_state.md R34). -/
theorem test_bounded_counter :
    (match step { start 0x0200 0x00 0x00 0x00 0x24 0xFF [0x48] with
        cyc := 254, cfg := { defaults with cycleCounterWidth := some 8 } } with
      | .next t => decide (t.cyc = 1)
      | _ => false) = true := by decide

/-- The trace line of step 7 of P1 (30_encoding.md R114: a branch shows its target). -/
theorem test_trace_line :
    (traceLine { start 0xC00A 0x05 0x04 0x00 0x24 0xFF [0xD0, 0xF9] with cyc := 14 }) =
      some ⟨0xC00A, [0xD0, 0xF9], ['B', 'N', 'E'], ['$', 'C', '0', '0', '5'], 0x05, 0x04, 0x00, 0x24, 0xFF, 14⟩ := by
  decide

/-- The dots projection wraps at 341 (70_reset_and_hazards.md R363). -/
theorem test_trace_dots : cycField { State.reset with cyc := 114, cfg := { defaults with traceDotsPerCycle := .three } } =
    1 ∧ cycField { State.reset with cyc := 342 } = 1 := by decide

/-- The register dump of 70_reset_and_hazards.md R362. -/
theorem test_trace_registers :
    registersText ⟨0xC000, [0xEA], ['N', 'O', 'P'], [], 0x01, 0xAB, 0x00, 0x24, 0xFD, 17⟩ =
      "A:01 X:AB Y:00 P:24 SP:FD CYC:17".toList := by decide

/-! Witnesses: for every statement with hypotheses, concrete states and operands that meet them all. -/

/-- A ready state about to execute `STA $10`, with a bounded counter, a device history and listed cells. -/
def demo : State :=
  { start 0x0200 0x5A 0x01 0x02 0x25 0xFE [0x85, 0x10] [(0x0080, 0x77)] with
    cyc := 250, ppuLog := [.write 0x2000 0x01], cfg := { defaults with cycleCounterWidth := some 8 } }

/-- The state after it. -/
def demoAfter : State := { demo with mem := demo.mem.write 0x0010 0x5A, pc := 0x0202, cyc := 253 }

theorem witness_step : step demo = .next demoAfter := rfl

theorem witness_exec : exec (.staZp 0x10) demo = .next demoAfter := rfl

theorem witness_DecodeOfEncode : (Instr.laxIzy 0x40).WellFormed defaults ∧ (Instr.brk).WellFormed legalOnly := by decide

theorem witness_DecodedBytes :
    (decode defaults [0x6C, 0xFF, 0x30, 0x99]).toOption = some (.jmpInd 0x30FF, [0x99]) := by decide

theorem witness_BytesWithoutDescriptor :
    let s := start 0x0200 0x00 0x00 0x00 0x24 0xFF [0xFF]
    (0x02 : Byte) ∈ illegalBytes ∧ (0xFF : Byte) ∈ illegalBytes ∧ s.Ready ∧ (memRead s.pc s).1 ∈ illegalBytes := by decide

theorem witness_InformalOpcodes : (0xA3 : Byte) ∈ informalBytes ∧ (0xFC : Byte) ∈ informalBytes ∧
    (0xA3 : Byte) ∈ defaults.informalOpcodes ∧ (0xA3 : Byte) ∉ legalOnly.informalOpcodes := by decide

theorem witness_StepRunsTheDecodedInstruction : demo.Ready ∧ (Instr.staZp 0x10).WellFormed demo.cfg ∧
    (readBytes (encode (.staZp 0x10)).length demo.pc demo).1 = encode (.staZp 0x10) := by decide

theorem witness_StepFromPlainMemory : demo.Ready ∧ (Instr.staZp 0x10).WellFormed demo.cfg ∧
    FetchesPlainly (.staZp 0x10) demo := by
  refine ⟨by decide, by decide, ?_⟩
  unfold FetchesPlainly
  decide

theorem witness_StepCompletesExactlyWhenSafe : demo.Safe ∧ ¬ ({ demo with pc := 0x0300, mem := [(0x0300, 0x02)] } : State).Safe ∧
    ¬ ({ demo with pcSeeded := false } : State).Safe := by decide

theorem witness_DecodeError :
    let s := start 0xC105 0xA0 0x00 0x01 0xA4 0xFF [0x02]
    s.Ready ∧ (decodeOpcode s.cfg (memRead s.pc s).1).isNone = true := by decide

theorem witness_LatchedFault : ({ demo with fault := some ⟨0xC105, 0x02⟩ } : State).fault = some ⟨0xC105, 0x02⟩ := rfl

/-- Unseeded states: `PC` at the top of plain memory, and in the device window. -/
theorem witness_Unseeded :
    [0xFFFF, (0x2000 : Word)].all (fun pc =>
      let s := construct defaults [(0xFFFF, 0x02)] pc
      decide (s.fault = none) && !s.pcSeeded && decide (s.pc = pc)) = true := by decide

/-- The refusal carries the address and the byte there (70_reset_and_hazards.md R362). -/
theorem test_refusal_carries_pc0 :
    step (construct defaults [(0xFFFF, 0x02)] 0xFFFF) = .refused (.pcNotSeeded 0xFFFF 0x02) := rfl

theorem witness_Inv : Inv demo where
  memory_canonical := by decide
  history_in_window := by decide
  cycles_in_range w h := by
    cases h
    decide
  fault_is_illegal e h := by cases h

theorem witness_Inv_latched : Inv { demo with fault := some ⟨0xC105, 0x02⟩ } where
  memory_canonical := by decide
  history_in_window := by decide
  cycles_in_range w h := by
    cases h
    decide
  fault_is_illegal e h := by
    cases h
    decide

/-- Two canonical memories, written in two orders, that read alike at every address. -/
theorem witness_EqualMemories :
    let m := poke [] [(0x0000, 0x05), (0xFFFF, 0x06)]
    let n := poke [] [(0xFFFF, 0x06), (0x0000, 0x01), (0x0000, 0x05), (0x0010, 0x00)]
    m.wf = true ∧ n.wf = true ∧ ∀ a : Word, m.read a = n.read a := by
  have h : poke [] [(0x0000, 0x05), (0xFFFF, 0x06)] =
      poke [] [(0xFFFF, 0x06), (0x0000, 0x01), (0x0000, 0x05), (0x0010, 0x00)] := by decide
  refine ⟨by decide, by decide, fun a => ?_⟩
  rw [h]

theorem witness_window : [0x2000, 0x2007, (0x4014 : Word)].all inWindow = true ∧
    [0x0000, 0x1FFF, 0x2008, 0x4013, 0x4015, (0xFFFF : Word)].all (fun a => !inWindow a) = true ∧
    (0x1FFF : Word) ≠ 0x2008 := by decide

theorem witness_LiveBreakFlag : demo.cfg.pullLoadsB = false ∧ defaults.pullLoadsB = false := by decide

theorem witness_RunsSafely : RunsSafely 1 demo ∧ RunsSafely 0 demo := by decide

/-- A faulted state is not a normal end, of a run of zero steps either (60_exceptions.md R323; log 19). -/
theorem test_no_step_from_a_faulted_state :
    ¬ RunsSafely 0 { demo with fault := some ⟨0xC105, 0x02⟩ } := by decide

/-- A run whose end is the decode error: the invariant clause covers it too. -/
theorem witness_RunFaults : (runTraced 2 { demo with mem := demo.mem.write 0x0202 0x02 }).ending =
    .faulted (.decodeError ⟨0x0202, 0x02⟩) := by decide

/-- The next state that an instruction answers, if it answers one. -/
def after (i : Instr) (s : State) : Option State :=
  match exec i s with
  | .next t => some t
  | _ => none

/-- A state to see a flag or register change in: all flags but `Z` set and bit 4 clear, `A`, `X`, `Y`, `SP` distinct. -/
def busy : State := start 0x0200 0x81 0x02 0x03 0xED 0x80 [] [(0x0181, 0x10)]

/-- Each flag differs after some instruction. -/
theorem witness_FlagsChange :
    (after .clc busy).map (·.p.c) = some (!busy.p.c) ∧ (after (.ldaImm 0x00) busy).map (·.p.z) = some (!busy.p.z) ∧
    (after (.ldaImm 0x00) busy).map (·.p.n) = some (!busy.p.n) ∧ (after .clv busy).map (·.p.v) = some (!busy.p.v) ∧
    (after .cli busy).map (·.p.i) = some (!busy.p.i) ∧ (after .cld busy).map (·.p.d) = some (!busy.p.d) ∧
    (after .txs { busy with cfg := { defaults with txsSetsNz := true } }).map (·.p.n) = some (!busy.p.n) ∧
    (after .plp { busy with cfg := { defaults with pullLoadsB := true } }).map (·.p.b) = some (!busy.p.b) := by decide

/-- Each register differs after some instruction, `A` after a shift in Accumulator mode too. -/
theorem witness_RegistersChange :
    (after (.ldaImm 0x00) busy).map (·.a) = some 0x00 ∧ (after .aslAcc busy).map (·.a) = some 0x02 ∧
    (after .inx busy).map (·.x) = some 0x03 ∧ (after .dey busy).map (·.y) = some 0x02 ∧
    (after .pha busy).map (·.sp) = some 0x7F := by decide

/-- Addresses an instruction stores to, and one it does not. -/
theorem witness_MemoryChanges : storedAddresses (.staZp 0x10) demo = [0x0010] ∧
    (0x0011 : Word) ∉ storedAddresses (.staZp 0x10) demo ∧
    storedAddresses .brk { demo with sp := 0x01 } = [0x0101, 0x0100, 0x01FF] ∧
    storedAddresses (.ldaZp 0x10) demo = [] := by decide

theorem witness_PcAdvances : (Instr.staZp 0x10).row.operation ∉ controlTransfers ∧
    (Instr.bne 0x10).row.operation ∈ controlTransfers := by decide

theorem witness_ControlFlags : (Instr.staZp 0x10).row.operation ∉ [Operation.PHP, .BRK] := by decide

theorem witness_PushAndPop : ({ demo with sp := 0x00 } : State).sp = 0x00 ∧ ({ demo with sp := 0xFF } : State).sp = 0xFF := by
  decide

theorem witness_DirectAndIndexed : (Instr.ldxZpy 0x10).row.operand = .mem (.zpy 0x10) := rfl

theorem witness_ZeroPage : demo.cfg.zpPointerWrap = true ∧ (MemOperand.zpx 0xFF).mode ∈ [Mode.ZP, .ZPX, .ZPY] ∧
    (resolve (.abx 0x12FF) demo).crossed = true ∧ (resolve (.abx 0x12FE) demo).crossed = false := by decide

/-- The lists of forms hold 156 of the 184 rows; each of the other 28 has a clause of its own. -/
theorem witness_forms :
    ([adcForms, sbcForms, andForms, oraForms, eorForms, bitForms, cmpForms, cpxForms, cpyForms, ldaForms, ldxForms,
      ldyForms, laxForms].map fun f => (f 0x10 0x1234).length) = [8, 8, 8, 8, 8, 2, 8, 3, 3, 8, 5, 5, 6] ∧
    ([incForms, decForms, aslForms, lsrForms, rolForms, rorForms].map fun f => (f 0x10 0x1234).length) =
      [4, 4, 5, 5, 5, 5] ∧
    ([staForms, stxForms, styForms, nopMemoryForms].map fun f => (f 0x10 0x1234).length) = [7, 3, 3, 16] ∧
    nopOneByteForms.length = 6 ∧ (nopImmediateForms 0x10).length = 5 ∧ (branchForms 0x10 demo).length = 8 := by decide

/-- Both sides of a branch. -/
theorem witness_Branches : (0xB0, true, Instr.bcs 0x10) ∈ branchForms 0x10 demo ∧
    (0x90, false, Instr.bcc 0x10) ∈ branchForms 0x10 demo := by decide

theorem witness_AdcAndSbc : (after (.adcImm 0x7F) demo).isSome = true ∧ (after (.sbcImm 0x80) demo).isSome = true := by decide

theorem witness_BrkThenRti : State.reset.cfg = defaults := rfl

theorem witness_LoadsAndNops_absent : (0xA7 : Byte) ∉ legalOnly.informalOpcodes ∧ (0x1A : Byte) ∉ legalOnly.informalOpcodes ∧
    (0xA7 : Byte) ∈ (laxForms 0x10 0x1234).map (·.opcode) ∧ (0xFC : Byte) ∈ (nopMemoryForms 0 0).map (·.opcode) := by decide

/-- An image that wraps past the top of memory, a byte of it, and a cell outside it. -/
theorem witness_LoadedImage :
    let prg : List Byte := [0x11, 0x22, 0x33]
    prg.length ≤ 0x10000 ∧ 2 < prg.length ∧ ∀ k, k < prg.length → (0x0001 : Word) ≠ 0xFFFE + BitVec.ofNat 16 k := by decide

/-- A cartridge header with the given bank count. -/
def header (banks : Byte) : List Byte := [0x4E, 0x45, 0x53, 0x1A, banks, 0, 0, 0, 0, 0, 0, 0, 0, 0, 0, 0]

/-- A cartridge of one bank and one of two are accepted, at 0xC000 and 0x8000. -/
theorem witness_Cartridge_accepted :
    cartridgePrg (header 1 ++ List.replicate 0x4000 0xEA) = .ok (List.replicate 0x4000 0xEA, 0xC000) ∧
    cartridgePrg (header 2 ++ List.replicate 0x8000 0xEA) = .ok (List.replicate 0x8000 0xEA, 0x8000) := by
  constructor <;>
    simp [cartridgePrg, firstMismatch, cartridgeMagic, header, -List.reduceReplicate]

/-- Another magic, another bank count, and a file one byte short. -/
theorem witness_Cartridge_rejected :
    (0x00 :: (header 1).tail).take 4 ≠ [0x4E, 0x45, 0x53, 0x1A] ∧
    ((header 3).getD 4 0 ≠ 1 ∧ (header 3).getD 4 0 ≠ 2) ∧
    (header 1 ++ List.replicate 0x3FFF 0xEA).length < 16 + 0x4000 * ((header 1).getD 4 0).toNat := by
  refine ⟨by decide, by decide, ?_⟩
  simp [header, -List.reduceReplicate]

/-- The load errors (70_reset_and_hazards.md R356). -/
theorem test_load_errors :
    [0x00 :: (header 1).tail, header 3, header 1].map (fun f => (match cartridgePrg f with
      | .error e => some e
      | .ok _ => none)) = [some (.badMagic 0 0x00), some (.badBankCount 3), some (.truncated 16)] := by decide

theorem witness_TraceNone : traceLine { demo with pcSeeded := false } = none ∧ (traceLine demo).isSome = true := by decide

end Sys2Proof.Tests
end

section
/-! PROOFS for 00_scope.md. When a step completes: what the fetch finds for each kind of descriptor, every instruction's
meaning answers a next state, and a step answers one exactly when it is ready and fetches an instruction. -/

namespace Sys2Proof.Machine

/-! The fetch, by the descriptor of the opcode byte at `PC` (30_encoding.md R80, R107) -/

theorem fetch_none {s : State} (h : decodeOpcode s.cfg (memRead s.pc s).1 = none) :
    fetch s = .illegal (memRead s.pc s).1 (memRead s.pc s).2 := by
  simp only [fetch, h]

theorem fetch_one {s : State} {i : Instr} (h : decodeOpcode s.cfg (memRead s.pc s).1 = some (.one i)) :
    fetch s = .instruction i [(memRead s.pc s).1] (memRead s.pc s).2 := by
  simp only [fetch, h]

theorem fetch_two {s : State} {f : Byte → Instr} (h : decodeOpcode s.cfg (memRead s.pc s).1 = some (.two f)) :
    fetch s =
      let op := memRead s.pc s
      let b1 := memRead (s.pc + 1) op.2
      .instruction (f b1.1) [op.1, b1.1] b1.2 := by
  simp only [fetch, h]

theorem fetch_three {s : State} {f : Word → Instr} (h : decodeOpcode s.cfg (memRead s.pc s).1 = some (.three f)) :
    fetch s =
      let op := memRead s.pc s
      let b1 := memRead (s.pc + 1) op.2
      let b2 := memRead (s.pc + 2) b1.2
      .instruction (f (wordOf b1.1 b2.1)) [op.1, b1.1, b2.1] b2.2 := by
  simp only [fetch, h]

/-- The fetch finds an instruction exactly when the opcode byte has a descriptor. -/
theorem exists_fetch_eq_instruction_iff (s : State) :
    (∃ i bytes after, fetch s = .instruction i bytes after) ↔
      (decodeOpcode s.cfg (memRead s.pc s).1).isSome = true := by
  cases h : decodeOpcode s.cfg (memRead s.pc s).1 with
  | none => simp [fetch_none h]
  | some e =>
    refine iff_of_true ?_ rfl
    cases e with
    | one i => exact ⟨_, _, _, fetch_one h⟩
    | two f => exact ⟨_, _, _, fetch_two h⟩
    | three f => exact ⟨_, _, _, fetch_three h⟩

/-! Every instruction completes -/

theorem modifyInstr_completes (f : Byte → Flags → Byte × Flags) (place : Place) (base : Nat) (s : State) :
    ∃ t, modifyInstr f place base s = .next t := by
  cases place with
  | acc => exact ⟨_, rfl⟩
  | mem m => exact ⟨_, rfl⟩

theorem branchInstr_completes (taken : Bool) (off : Byte) (base : Nat) (s : State) :
    ∃ t, branchInstr taken off base s = .next t := by
  cases taken with
  | true => exact ⟨_, rfl⟩
  | false => exact ⟨_, rfl⟩

/-- No instruction's meaning ends in a fault or a refusal (60_exceptions.md R320, R328). -/
theorem exec_completes (i : Instr) (s : State) : ∃ t, exec i s = .next t := by
  cases shape i with
  | read f src op operand penalty size meaning => exact ⟨_, meaning s⟩
  | modify f place op operand penalty size meaning =>
    rw [meaning s]
    exact modifyInstr_completes f place _ s
  | store v m op operand penalty size meaning => exact ⟨_, meaning s⟩
  | implied f op operand size meaning => exact ⟨_, meaning s⟩
  | branch taken off op operand meaning =>
    rw [meaning s]
    exact branchInstr_completes (taken s) off _ s
  | transfer f op meaning => exact ⟨_, meaning s⟩
  | nopMem m op operand penalty size meaning => exact ⟨_, meaning s⟩
  | nopImm v op operand size meaning => exact ⟨_, meaning s⟩

/-! The step, by what stops it -/

theorem step_latched {s : State} {e : DecodeError} (h : s.fault = some e) : step s = .fault (.stopped e) := by
  simp only [step, h]

theorem step_unseeded {s : State} (hf : s.fault = none) (hp : s.pcSeeded = false) :
    step s = .refused (refuseUnseeded s) := by
  simp [step, hf, hp]

theorem step_illegal {s : State} (hr : s.Ready) {op : Byte} {after : State} (h : fetch s = .illegal op after) :
    step s = .fault (.decodeError ⟨s.pc, op⟩) := by
  simp [step, hr.1, hr.2, h]

theorem step_instruction {s : State} (hr : s.Ready) {i : Instr} {bytes : List Byte} {after : State}
    (h : fetch s = .instruction i bytes after) : step s = exec i after := by
  simp [step, hr.1, hr.2, h]

/-- A step that completes was ready, and executed the instruction it fetched. -/
theorem step_next_inv {s t : State} (h : step s = .next t) :
    s.Ready ∧ ∃ i bytes after, fetch s = .instruction i bytes after ∧ exec i after = .next t := by
  cases hf : s.fault with
  | some e => simp [step_latched hf] at h
  | none =>
    cases hp : s.pcSeeded with
    | false => simp [step_unseeded hf hp] at h
    | true =>
      cases hfetch : fetch s with
      | illegal op after => simp [step_illegal ⟨hf, hp⟩ hfetch] at h
      | instruction i bytes after =>
        rw [step_instruction ⟨hf, hp⟩ hfetch] at h
        exact ⟨⟨hf, hp⟩, i, bytes, after, rfl, h⟩

/-- Settles O8: a completing step was ready and fetched an instruction, and every instruction completes. -/
theorem stepCompletesExactlyWhenSafe : Obligations.StepCompletesExactlyWhenSafe := by
  unfold Obligations.StepCompletesExactlyWhenSafe
  intro s
  constructor
  · rintro ⟨t, h⟩
    obtain ⟨ready, i, bytes, after, hfetch, -⟩ := step_next_inv h
    exact ⟨ready, (exists_fetch_eq_instruction_iff s).mp ⟨i, bytes, after, hfetch⟩⟩
  · rintro ⟨ready, descriptor⟩
    obtain ⟨i, bytes, after, hfetch⟩ := (exists_fetch_eq_instruction_iff s).mpr descriptor
    rw [step_instruction ready hfetch]
    exact exec_completes i after

end Sys2Proof.Machine
end

section
/-! PROOFS for 10_state.md. What every step keeps, which instructions write each flag and each register, that `D`, `I`
and `B` influence no instruction but the two that push them, the packed status byte, and the reset. -/

namespace Sys2Proof.Machine

/-! Every operation, every instruction and every step keeps what `Keeps` says -/

theorem ReadOp.keeps {op : Operation} {f : Byte → State → State} (h : ReadOp op f) : ∀ m s, Keeps s (f m s) :=
  match h with
  | .adc => Keeps.opAdc
  | .sbc => Keeps.opSbc
  | .and => Keeps.opAnd
  | .ora => Keeps.opOra
  | .eor => Keeps.opEor
  | .bit => Keeps.opBit
  | .cmp => Keeps.opCmp
  | .cpx => Keeps.opCpx
  | .cpy => Keeps.opCpy
  | .lda => Keeps.opLda
  | .ldx => Keeps.opLdx
  | .ldy => Keeps.opLdy
  | .lax => Keeps.opLax

theorem ModifyOp.keeps_b {op : Operation} {f : Byte → Flags → Byte × Flags} (h : ModifyOp op f) (m : Byte) (p : Flags) :
    (f m p).2.b = p.b := by
  cases h <;> rfl

theorem ImpliedOp.keeps {op : Operation} {f : State → State} (h : ImpliedOp op f) : ∀ s, Keeps s (f s) :=
  match h with
  | .inx => Keeps.opInx
  | .iny => Keeps.opIny
  | .dex => Keeps.opDex
  | .dey => Keeps.opDey
  | .tax => Keeps.opTax
  | .tay => Keeps.opTay
  | .txa => Keeps.opTxa
  | .tya => Keeps.opTya
  | .tsx => Keeps.opTsx
  | .txs => Keeps.opTxs
  | .pha => Keeps.opPha
  | .php => Keeps.opPhp
  | .pla => Keeps.opPla
  | .plp => Keeps.opPlp
  | .clc => Keeps.opClc
  | .sec => Keeps.opSec
  | .cli => Keeps.opCli
  | .sei => Keeps.opSei
  | .cld => Keeps.opCld
  | .sed => Keeps.opSed
  | .clv => Keeps.opClv
  | .nop => Keeps.opNop

theorem TransferOp.keeps {op : Operation} {o : Operand} {f : State → State} (h : TransferOp op o f) :
    ∀ s, Keeps s (f s) :=
  match h with
  | .jmp w => Keeps.opJmp w
  | .jmpIndirect w => Keeps.opJmpIndirect w
  | .jsr w => Keeps.opJsr w
  | .rts => Keeps.opRts
  | .brk => Keeps.takeTrap
  | .rti => Keeps.returnFromTrap

theorem exec_keeps {i : Instr} {s t : State} (h : exec i s = .next t) : Keeps s t := by
  cases shape i with
  | read f src op operand penalty size meaning => exact readInstr_keeps op.keeps ((meaning s).symm.trans h)
  | modify f place op operand penalty size meaning => exact modifyInstr_keeps op.keeps_b ((meaning s).symm.trans h)
  | store v m op operand penalty size meaning => exact storeInstr_keeps ((meaning s).symm.trans h)
  | implied f op operand size meaning => exact impliedInstr_keeps op.keeps ((meaning s).symm.trans h)
  | branch taken off op operand meaning => exact branchInstr_keeps ((meaning s).symm.trans h)
  | transfer f op meaning => exact transferInstr_keeps op.keeps ((meaning s).symm.trans h)
  | nopMem m op operand penalty size meaning => exact nopInstr_keeps ((meaning s).symm.trans h)
  | nopImm v op operand size meaning =>
    cases (meaning s).symm.trans h
    exact Keeps.advance _ _ s

theorem fetch_keeps {s after : State} {i : Instr} {bytes : List Byte} (h : fetch s = .instruction i bytes after) :
    Keeps s after := by
  cases hd : decodeOpcode s.cfg (memRead s.pc s).1 with
  | none => simp [fetch_none hd] at h
  | some e =>
    cases e with
    | one j =>
      cases (fetch_one hd).symm.trans h
      exact Keeps.memRead _ s
    | two f =>
      cases (fetch_two hd).symm.trans h
      exact (Keeps.memRead _ s).trans (Keeps.memRead _ _)
    | three f =>
      cases (fetch_three hd).symm.trans h
      exact ((Keeps.memRead _ s).trans (Keeps.memRead _ _)).trans (Keeps.memRead _ _)

theorem step_keeps {s t : State} (h : step s = .next t) : Keeps s t := by
  obtain ⟨-, i, bytes, after, hfetch, hexec⟩ := step_next_inv h
  exact (fetch_keeps hfetch).trans (exec_keeps hexec)

theorem Keeps.inv {s t : State} (k : Keeps s t) (h : Inv s) : Inv t where
  memory_canonical := k.canonical h.memory_canonical
  history_in_window e he := by
    obtain ⟨added, hlog, hadded⟩ := k.history
    rw [hlog] at he
    rcases List.mem_append.mp he with he | he
    · exact hadded e he
    · exact h.history_in_window e he
  cycles_in_range w hw := by
    rw [k.cfg] at hw
    exact k.cycles w hw (h.cycles_in_range w hw)
  fault_is_illegal e he := by
    rw [k.fault] at he
    rw [k.cfg]
    exact h.fault_is_illegal e he

/-- Settles O12: a step that completes keeps each part of the invariant. -/
theorem everyStepKeepsTheInvariant : Obligations.EveryStepKeepsTheInvariant := by
  unfold Obligations.EveryStepKeepsTheInvariant
  intro s t hs h
  exact (step_keeps h).inv hs

/-- Settles O16: the live `B` flag is among what a step that completes keeps. -/
theorem liveBreakFlagIsNeverWritten : Obligations.LiveBreakFlagIsNeverWritten := by
  unfold Obligations.LiveBreakFlagIsNeverWritten
  intro s t hb h
  exact (step_keeps h).breakFlag hb

/-! The writers of each flag and register, and what an operation may write -/

/-- The writers of `C` (10_state.md R27). -/
def carryWriters : List Operation :=
  [.ADC, .SBC, .CMP, .CPX, .CPY, .ASL, .LSR, .ROL, .ROR, .CLC, .SEC, .PLP, .RTI]

/-- The writers of `Z` and `N` (10_state.md R27), but for `TXS`, which is one only when `TXS_SETS_NZ`. -/
def zeroNegativeWriters : List Operation :=
  [.ADC, .SBC, .AND, .ORA, .EOR, .BIT, .CMP, .CPX, .CPY, .INC, .DEC, .INX, .INY, .DEX, .DEY, .ASL, .LSR, .ROL,
    .ROR, .LDA, .LDX, .LDY, .LAX, .TAX, .TAY, .TXA, .TYA, .TSX, .PLA, .PLP, .RTI]

/-- The writers of `V` (10_state.md R27). -/
def overflowWriters : List Operation := [.ADC, .SBC, .BIT, .CLV, .PLP, .RTI]

/-- The writers of `I` (10_state.md R27). -/
def interruptWriters : List Operation := [.SEI, .CLI, .BRK, .PLP, .RTI]

/-- The writers of `D` (10_state.md R27). -/
def decimalWriters : List Operation := [.SED, .CLD, .PLP, .RTI]

/-- The operations that pull the status byte: the writers of `B`, when `PULL_LOADS_B` (10_state.md R27). -/
def statusPulls : List Operation := [.PLP, .RTI]

/-- The operations with `A` as destination in every form (10_state.md R21). -/
def accumulatorWriters : List Operation := [.ADC, .SBC, .AND, .ORA, .EOR, .LDA, .LAX, .TXA, .TYA, .PLA]

/-- The shifts and rotates, which have `A` as destination in Accumulator mode only (10_state.md R21). -/
def shifts : List Operation := [.ASL, .LSR, .ROL, .ROR]

/-- The writers of `X` (10_state.md R22). -/
def xWriters : List Operation := [.LDX, .LAX, .TAX, .TSX, .INX, .DEX]

/-- The writers of `Y` (10_state.md R23). -/
def yWriters : List Operation := [.LDY, .TAY, .INY, .DEY]

/-- The writers of `SP`: pushes, pulls and `TXS` (10_state.md R26). -/
def stackWriters : List Operation := [.TXS, .PHA, .PHP, .PLA, .PLP, .JSR, .RTS, .BRK, .RTI]

/-- From `p` to `q` only flags that the operation writes may differ. -/
structure WritesFlags (op : Operation) (cfg : Config) (p q : Flags) : Prop where
  carry : q.c ≠ p.c → op ∈ carryWriters
  zeroNegative : q.z ≠ p.z ∨ q.n ≠ p.n → op ∈ zeroNegativeWriters ∨ (op = .TXS ∧ cfg.txsSetsNz = true)
  overflow : q.v ≠ p.v → op ∈ overflowWriters
  interrupt : q.i ≠ p.i → op ∈ interruptWriters
  decimal : q.d ≠ p.d → op ∈ decimalWriters
  breakFlag : q.b ≠ p.b → op ∈ statusPulls ∧ cfg.pullLoadsB = true

/-- From `s` to `t` only flags and registers that the operation writes, given its operand, may differ. -/
structure Writes (op : Operation) (o : Operand) (s t : State) : Prop where
  flags : WritesFlags op s.cfg s.p t.p
  a : t.a ≠ s.a → op ∈ accumulatorWriters ∨ (op ∈ shifts ∧ o = .acc)
  x : t.x ≠ s.x → op ∈ xWriters
  y : t.y ≠ s.y → op ∈ yWriters
  sp : t.sp ≠ s.sp → op ∈ stackWriters
  cfg : t.cfg = s.cfg

namespace WritesFlags

variable {op : Operation} {cfg : Config} {p q r : Flags}

theorem refl : WritesFlags op cfg p p :=
  ⟨absurd rfl, fun e => e.elim (absurd rfl) (absurd rfl), absurd rfl, absurd rfl, absurd rfl, absurd rfl⟩

theorem trans (h : WritesFlags op cfg p q) (k : WritesFlags op cfg q r) : WritesFlags op cfg p r where
  carry e := (e.ne_or_ne q.c).elim k.carry fun e => h.carry e.symm
  zeroNegative := by
    rintro (e | e)
    · exact (e.ne_or_ne q.z).elim (fun e => k.zeroNegative (.inl e)) fun e => h.zeroNegative (.inl e.symm)
    · exact (e.ne_or_ne q.n).elim (fun e => k.zeroNegative (.inr e)) fun e => h.zeroNegative (.inr e.symm)
  overflow e := (e.ne_or_ne q.v).elim k.overflow fun e => h.overflow e.symm
  interrupt e := (e.ne_or_ne q.i).elim k.interrupt fun e => h.interrupt e.symm
  decimal e := (e.ne_or_ne q.d).elim k.decimal fun e => h.decimal e.symm
  breakFlag e := (e.ne_or_ne q.b).elim k.breakFlag fun e => h.breakFlag e.symm

theorem setC (c : Bool) (hc : op ∈ carryWriters) : WritesFlags op cfg p { p with c := c } :=
  { refl with carry := fun _ => hc }

theorem setV (v : Bool) (hv : op ∈ overflowWriters) : WritesFlags op cfg p { p with v := v } :=
  { refl with overflow := fun _ => hv }

theorem setI (i : Bool) (hi : op ∈ interruptWriters) : WritesFlags op cfg p { p with i := i } :=
  { refl with interrupt := fun _ => hi }

theorem setD (d : Bool) (hd : op ∈ decimalWriters) : WritesFlags op cfg p { p with d := d } :=
  { refl with decimal := fun _ => hd }

/-- A change of `Z` and `N` by any writer of them, `TXS` included. -/
theorem setZN (z n : Bool) (hz : op ∈ zeroNegativeWriters ∨ (op = .TXS ∧ cfg.txsSetsNz = true)) :
    WritesFlags op cfg p { p with z := z, n := n } :=
  { refl with zeroNegative := fun _ => hz }

theorem nz (v : Byte) (hz : op ∈ zeroNegativeWriters) : WritesFlags op cfg p (setNZ v p) :=
  setZN _ _ (.inl hz)

theorem nzc (v : Byte) (c : Bool) (hz : op ∈ zeroNegativeWriters) (hc : op ∈ carryWriters) :
    WritesFlags op cfg p (setNZ v { p with c := c }) :=
  (setC c hc).trans (nz v hz)

theorem pull (x : Byte) (hop : op ∈ statusPulls) : WritesFlags op cfg p (pullStatus cfg x p) where
  carry _ := (by decide : statusPulls ⊆ carryWriters) hop
  zeroNegative _ := .inl ((by decide : statusPulls ⊆ zeroNegativeWriters) hop)
  overflow _ := (by decide : statusPulls ⊆ overflowWriters) hop
  interrupt _ := (by decide : statusPulls ⊆ interruptWriters) hop
  decimal _ := (by decide : statusPulls ⊆ decimalWriters) hop
  breakFlag e := ⟨hop, by
    by_contra hcfg
    exact e (pullStatus_b cfg x p (Bool.eq_false_of_not_eq_true hcfg))⟩

end WritesFlags

theorem ModifyOp.writesFlags {op : Operation} {f : Byte → Flags → Byte × Flags} (h : ModifyOp op f) {cfg : Config}
    (m : Byte) (p : Flags) : WritesFlags op cfg p (f m p).2 :=
  match h with
  | .inc | .dec => .nz _ (by decide)
  | .asl | .lsr | .rol | .ror => .nzc _ _ (by decide) (by decide)

namespace Writes

variable {op : Operation} {o : Operand} {s t u : State}

theorem refl : Writes op o s s :=
  ⟨.refl, absurd rfl, absurd rfl, absurd rfl, absurd rfl, rfl⟩

theorem trans (h : Writes op o s t) (k : Writes op o t u) : Writes op o s u where
  flags := h.flags.trans (h.cfg ▸ k.flags)
  a e := (e.ne_or_ne t.a).elim k.a fun e => h.a e.symm
  x e := (e.ne_or_ne t.x).elim k.x fun e => h.x e.symm
  y e := (e.ne_or_ne t.y).elim k.y fun e => h.y e.symm
  sp e := (e.ne_or_ne t.sp).elim k.sp fun e => h.sp e.symm
  cfg := k.cfg.trans h.cfg

theorem setA (v : Byte) (h : op ∈ accumulatorWriters ∨ (op ∈ shifts ∧ o = .acc)) : Writes op o s (s.setA v) :=
  ⟨.refl, fun _ => h, absurd rfl, absurd rfl, absurd rfl, rfl⟩

theorem setX (v : Byte) (h : op ∈ xWriters) : Writes op o s (s.setX v) :=
  ⟨.refl, absurd rfl, fun _ => h, absurd rfl, absurd rfl, rfl⟩

theorem setY (v : Byte) (h : op ∈ yWriters) : Writes op o s (s.setY v) :=
  ⟨.refl, absurd rfl, absurd rfl, fun _ => h, absurd rfl, rfl⟩

theorem setSp (v : Byte) (h : op ∈ stackWriters) : Writes op o s (s.setSp v) :=
  ⟨.refl, absurd rfl, absurd rfl, absurd rfl, fun _ => h, rfl⟩

theorem setP {q : Flags} (h : WritesFlags op s.cfg s.p q) : Writes op o s (s.setP q) :=
  ⟨h, absurd rfl, absurd rfl, absurd rfl, absurd rfl, rfl⟩

theorem setPc (v : Word) : Writes op o s (s.setPc v) :=
  ⟨.refl, absurd rfl, absurd rfl, absurd rfl, absurd rfl, rfl⟩

theorem setCyc (n : Nat) : Writes op o s (s.setCyc n) :=
  ⟨.refl, absurd rfl, absurd rfl, absurd rfl, absurd rfl, rfl⟩

theorem setMem (m : Memory) : Writes op o s (s.setMem m) :=
  ⟨.refl, absurd rfl, absurd rfl, absurd rfl, absurd rfl, rfl⟩

theorem setPpuLog (l : List PpuEvent) : Writes op o s (s.setPpuLog l) :=
  ⟨.refl, absurd rfl, absurd rfl, absurd rfl, absurd rfl, rfl⟩

theorem memRead (a : Word) (s : State) : Writes op o s (memRead a s).2 := by
  rw [memRead_after]
  exact setPpuLog _

theorem memWrite (a : Word) (v : Byte) (s : State) : Writes op o s (memWrite a v s) := by
  rw [memWrite_after]
  exact (setMem _).trans (setPpuLog _)

theorem resolve (m : MemOperand) (s : State) : Writes op o s (resolve m s).after := by
  rw [resolve_after]
  exact setPpuLog _

theorem readOperand (src : Source) (s : State) : Writes op o s (readOperand src s).after := by
  rw [readOperand_after]
  exact setPpuLog _

theorem charge (n : Nat) : Writes op o s (charge n s) := setCyc _

theorem advance (size cost : Nat) : Writes op o s (advance size cost s) := (setPc _).trans (charge cost)

theorem push (v : Byte) (h : op ∈ stackWriters) : Writes op o s (push v s) :=
  (memWrite _ v s).trans (setSp _ h)

theorem pop (h : op ∈ stackWriters) : Writes op o s (pop s).2 :=
  (setSp _ h).trans (memRead _ _)

theorem loadA (v : Byte) (ha : op ∈ accumulatorWriters) (hz : op ∈ zeroNegativeWriters) :
    Writes op o s (loadA v s) :=
  (setA v (.inl ha)).trans (setP (.nz v hz))

theorem loadX (v : Byte) (hx : op ∈ xWriters) (hz : op ∈ zeroNegativeWriters) : Writes op o s (loadX v s) :=
  (setX v hx).trans (setP (.nz v hz))

theorem loadY (v : Byte) (hy : op ∈ yWriters) (hz : op ∈ zeroNegativeWriters) : Writes op o s (loadY v s) :=
  (setY v hy).trans (setP (.nz v hz))

end Writes

theorem ReadOp.writes {op : Operation} {f : Byte → State → State} (h : ReadOp op f) {o : Operand} (m : Byte)
    (s : State) : Writes op o s (f m s) :=
  match h with
  | .adc | .sbc => (Writes.setA _ (.inl (by decide))).trans
      (.setP ((WritesFlags.setV _ (by decide)).trans (.nzc _ _ (by decide) (by decide))))
  | .and | .ora | .eor | .lda => .loadA _ (by decide) (by decide)
  | .bit => .setP ((WritesFlags.setV _ (by decide)).trans (.setZN _ _ (.inl (by decide))))
  | .cmp | .cpx | .cpy => .setP (.nzc _ _ (by decide) (by decide))
  | .ldx => .loadX _ (by decide) (by decide)
  | .ldy => .loadY _ (by decide) (by decide)
  | .lax => (Writes.setA _ (.inl (by decide))).trans (.loadX _ (by decide) (by decide))

theorem opTxs_writes (o : Operand) (s : State) : Writes .TXS o s (opTxs s) := by
  refine (Writes.setSp s.x (by decide)).trans (.setP ?_)
  cases h : s.cfg.txsSetsNz with
  | false => exact .refl
  | true => exact .setZN _ _ (.inr ⟨rfl, h⟩)

theorem ImpliedOp.writes {op : Operation} {f : State → State} (h : ImpliedOp op f) {o : Operand} (s : State) :
    Writes op o s (f s) :=
  match h with
  | .inx | .dex | .tax | .tsx => .loadX _ (by decide) (by decide)
  | .iny | .dey | .tay => .loadY _ (by decide) (by decide)
  | .txa | .tya => .loadA _ (by decide) (by decide)
  | .txs => opTxs_writes o s
  | .pha | .php => .push _ (by decide)
  | .pla => (Writes.pop (by decide)).trans (.loadA _ (by decide) (by decide))
  | .plp => (Writes.pop (by decide)).trans (.setP (.pull _ (by decide)))
  | .clc | .sec => .setP (.setC _ (by decide))
  | .cli | .sei => .setP (.setI _ (by decide))
  | .cld | .sed => .setP (.setD _ (by decide))
  | .clv => .setP (.setV _ (by decide))
  | .nop => .refl

theorem takeTrap_writes (o : Operand) (s : State) : Writes .BRK o s (takeTrap s) := by
  rw [takeTrap_eq]
  exact ⟨.setI true (by decide), absurd rfl, absurd rfl, absurd rfl, fun _ => by decide, rfl⟩

theorem returnFromTrap_writes (o : Operand) (s : State) : Writes .RTI o s (returnFromTrap s) := by
  rw [returnFromTrap_eq]
  exact ⟨.pull _ (by decide), absurd rfl, absurd rfl, absurd rfl, fun _ => by decide, rfl⟩

theorem TransferOp.writes {op : Operation} {o : Operand} {f : State → State} (h : TransferOp op o f) (s : State) :
    Writes op o s (f s) :=
  match h with
  | .jmp w => .setPc w
  | .jmpIndirect w => ((Writes.memRead w s).trans (.memRead _ _)).trans (.setPc _)
  | .jsr w => ((Writes.push _ (by decide)).trans (.push _ (by decide))).trans (.setPc w)
  | .rts => ((Writes.pop (by decide)).trans (.pop (by decide))).trans (.setPc _)
  | .brk => takeTrap_writes _ s
  | .rti => returnFromTrap_writes _ s

/-- Only a shift or rotate has Accumulator mode (41_shift_rotate.md R200). -/
theorem operation_mem_shifts_of_acc {i : Instr} (h : i.row.operand = .acc) : i.row.operation ∈ shifts := by
  cases i <;> cases h <;> decide

theorem modifyInstr_writes {op : Operation} {o : Operand} {f : Byte → Flags → Byte × Flags} (hf : ModifyOp op f)
    {place : Place} (hacc : place = .acc → op ∈ shifts ∧ o = .acc) {base : Nat} {s t : State}
    (h : modifyInstr f place base s = .next t) : Writes op o s t := by
  cases place with
  | acc =>
    cases h
    exact ((Writes.setA _ (.inr (hacc rfl))).trans (.setP (hf.writesFlags _ _))).trans (.advance _ _)
  | mem m =>
    cases h
    refine ((((Writes.resolve m s).trans (.memRead _ _)).trans (.memWrite _ _ _)).trans (.setP ?_)).trans (.advance _ _)
    rw [memWrite_p]
    exact hf.writesFlags _ _

theorem branchInstr_writes {op : Operation} {o : Operand} {taken : Bool} {off : Byte} {base : Nat} {s t : State}
    (h : branchInstr taken off base s = .next t) : Writes op o s t := by
  cases taken with
  | true =>
    cases h
    exact (Writes.setPc _).trans (.charge _)
  | false =>
    cases h
    exact (Writes.setPc _).trans (.charge _)

theorem nopInstr_writes {op : Operation} {o : Operand} {m : MemOperand} {base : Nat} {s t : State}
    (h : nopInstr m base s = .next t) : Writes op o s t := by
  cases h
  refine Writes.trans ?_ (.advance _ _)
  split
  · exact (Writes.resolve m s).trans (.memRead _ _)
  · exact .resolve m s

theorem exec_writes {i : Instr} {s t : State} (h : exec i s = .next t) :
    Writes i.row.operation i.row.operand s t := by
  cases shape i with
  | read f src op operand penalty size meaning =>
    cases (meaning s).symm.trans h
    exact ((Writes.readOperand src s).trans (op.writes _ _)).trans (.advance _ _)
  | modify f place op operand penalty size meaning =>
    refine modifyInstr_writes op (fun hp => ?_) ((meaning s).symm.trans h)
    have hacc : i.row.operand = .acc := by rw [operand, hp, placeOperand]
    exact ⟨operation_mem_shifts_of_acc hacc, hacc⟩
  | store v m op operand penalty size meaning =>
    cases (meaning s).symm.trans h
    exact ((Writes.resolve m s).trans (.memWrite _ _ _)).trans (.advance _ _)
  | implied f op operand size meaning =>
    cases (meaning s).symm.trans h
    exact (op.writes s).trans (.advance _ _)
  | branch taken off op operand meaning => exact branchInstr_writes ((meaning s).symm.trans h)
  | transfer f op meaning =>
    cases (meaning s).symm.trans h
    exact (op.writes s).trans (.charge _)
  | nopMem m op operand penalty size meaning => exact nopInstr_writes ((meaning s).symm.trans h)
  | nopImm v op operand size meaning =>
    cases (meaning s).symm.trans h
    exact .advance _ _

/-- Settles O18: the flags part of what an instruction may write. -/
theorem flagsChangeOnlyAsTheTableSays : Obligations.FlagsChangeOnlyAsTheTableSays := by
  unfold Obligations.FlagsChangeOnlyAsTheTableSays
  intro i s t h
  have flags := (exec_writes h).flags
  exact ⟨flags.carry, flags.zeroNegative, flags.overflow, flags.interrupt, flags.decimal, flags.breakFlag⟩

/-- Settles O19: the register part of what an instruction may write, and the latch, the seeding and the configuration
from what every instruction keeps. -/
theorem registersChangeOnlyByTheirWriters : Obligations.RegistersChangeOnlyByTheirWriters := by
  unfold Obligations.RegistersChangeOnlyByTheirWriters
  intro i s t h
  have writes := exec_writes h
  have keeps := exec_keeps h
  exact ⟨writes.a, writes.x, writes.y, writes.sp, keeps.fault, keeps.pcSeeded, keeps.cfg⟩

/-! `D`, `I` and `B` influence nothing but the pushed status (10_state.md R31-R33): replacing them commutes with every
shared operation, and the instructions that write them give the same once they are replaced again after. -/

section ControlFlags

open Sys2Proof.Stated

variable (d i b : Bool)

theorem withControlFlags_cfg (s : State) : (withControlFlags d i b s).cfg = s.cfg := rfl

theorem memRead_withControlFlags (a : Word) (s : State) :
    memRead a (withControlFlags d i b s) = ((memRead a s).1, withControlFlags d i b (memRead a s).2) := by
  cases h : inWindow a with
  | false => simp only [memRead_plain h]; rfl
  | true => simp only [memRead_window h]; rfl

theorem memWrite_withControlFlags (a : Word) (v : Byte) (s : State) :
    memWrite a v (withControlFlags d i b s) = withControlFlags d i b (memWrite a v s) := by
  cases h : inWindow a with
  | false => simp only [memWrite_plain h]; rfl
  | true => simp only [memWrite_window h]; rfl

theorem readPointer_withControlFlags (p : Byte) (s : State) :
    readPointer p (withControlFlags d i b s) =
      ((readPointer p s).1, withControlFlags d i b (readPointer p s).2) := by
  simp only [readPointer, memRead_withControlFlags]
  rfl

theorem resolve_withControlFlags (m : MemOperand) (s : State) :
    resolve m (withControlFlags d i b s) =
      { resolve m s with after := withControlFlags d i b (resolve m s).after } := by
  cases m with
  | izx z => exact congrArg (fun r => Resolved.mk r.1 false r.2) (readPointer_withControlFlags d i b (z + s.x) s)
  | izy z => exact congrArg (fun r => indexed r.1 s.y r.2) (readPointer_withControlFlags d i b z s)
  | zp | zpx | zpy | abs | abx | aby => rfl

theorem readOperand_withControlFlags (src : Source) (s : State) :
    readOperand src (withControlFlags d i b s) =
      { readOperand src s with after := withControlFlags d i b (readOperand src s).after } := by
  cases src with
  | imm v => rfl
  | mem m => simp only [readOperand, resolve_withControlFlags, memRead_withControlFlags]

theorem ReadOp.withControlFlags {op : Operation} {f : Byte → State → State} (h : ReadOp op f) (m : Byte) (s : State) :
    f m (withControlFlags d i b s) = withControlFlags d i b (f m s) := by
  cases h <;> rfl

theorem ModifyOp.withControlFlags {op : Operation} {f : Byte → Flags → Byte × Flags} (h : ModifyOp op f) (m : Byte)
    (s : State) :
    f m (withControlFlags d i b s).p = ((f m s.p).1, { (f m s.p).2 with d := d, i := i, b := b }) := by
  cases h <;> rfl

theorem StoreOp.withControlFlags {op : Operation} {v : State → Byte} (h : StoreOp op v) (s : State) :
    v (withControlFlags d i b s) = v s := by
  cases h <;> rfl

theorem BranchOp.withControlFlags {op : Operation} {taken : State → Bool} (h : BranchOp op taken) (s : State) :
    taken (withControlFlags d i b s) = taken s := by
  cases h <;> rfl

/-- `f` gives the same, once `D`, `I` and `B` are replaced, from a state with them replaced. -/
def IgnoresControlFlags (f : State → State) : Prop :=
  ∀ s, withControlFlags d i b (f (withControlFlags d i b s)) = withControlFlags d i b (f s)

theorem opTxs_ignores : IgnoresControlFlags d i b opTxs := by
  intro s
  cases h : s.cfg.txsSetsNz <;> (simp only [opTxs, withControlFlags_cfg, h]; rfl)

theorem ImpliedOp.ignores {op : Operation} {f : State → State} (h : ImpliedOp op f)
    (hop : op ∉ [Operation.PHP, .BRK]) : IgnoresControlFlags d i b f := by
  cases h with
  | txs => exact opTxs_ignores d i b
  | pha => intro s; simp only [opPha, push_eq]; rfl
  | php => exact absurd (by decide) hop
  | pla => intro s; simp only [opPla, pop_eq]; rfl
  | plp => intro s; simp only [opPlp, pop_eq]; rfl
  | inx | iny | dex | dey | tax | tay | txa | tya | tsx => exact fun _ => rfl
  | clc | sec | cli | sei | cld | sed | clv | nop => exact fun _ => rfl

theorem TransferOp.ignores {op : Operation} {o : Operand} {f : State → State} (h : TransferOp op o f)
    (hop : op ∉ [Operation.PHP, .BRK]) : IgnoresControlFlags d i b f := by
  intro s
  cases h with
  | jmp w => rfl
  | jmpIndirect w => simp only [opJmpIndirect, jumpTarget, memRead_withControlFlags]; rfl
  | jsr w => simp only [opJsr, push_eq]; rfl
  | rts => simp only [opRts, pop_eq]; rfl
  | brk => exact absurd (by decide) hop
  | rti => simp only [returnFromTrap_eq]; rfl

end ControlFlags

/-- Settles O23: every instruction but the two that push the status commutes with replacing `D`, `I` and `B`, or gives
the same once they are replaced again. -/
theorem controlFlagsInfluenceOnlyThePushedStatus : Obligations.ControlFlagsInfluenceOnlyThePushedStatus := by
  unfold Obligations.ControlFlagsInfluenceOnlyThePushedStatus
  intro instr s t d i b hop h
  cases shape instr with
  | read f src op operand penalty size meaning =>
    cases (meaning s).symm.trans h
    refine ⟨_, meaning _, ?_⟩
    simp only [readOperand_withControlFlags, op.withControlFlags]
    rfl
  | modify f place op operand penalty size meaning =>
    cases place with
    | acc =>
      cases (meaning s).symm.trans h
      refine ⟨_, meaning _, ?_⟩
      rw [op.withControlFlags]
      rfl
    | mem m =>
      cases (meaning s).symm.trans h
      refine ⟨_, meaning _, ?_⟩
      simp only [resolve_withControlFlags, memRead_withControlFlags, op.withControlFlags, memWrite_withControlFlags]
      rfl
  | store v m op operand penalty size meaning =>
    cases (meaning s).symm.trans h
    refine ⟨_, meaning _, ?_⟩
    simp only [resolve_withControlFlags, op.withControlFlags, memWrite_withControlFlags]
    rfl
  | implied f op operand size meaning =>
    cases (meaning s).symm.trans h
    exact ⟨_, meaning _, congrArg (advance 1 _) (op.ignores d i b hop s)⟩
  | branch taken off op operand meaning =>
    have hs := (meaning s).symm.trans h
    have hW := meaning (Stated.withControlFlags d i b s)
    rw [op.withControlFlags] at hW
    generalize taken s = c at hs hW
    cases c with
    | false =>
      cases hs
      exact ⟨_, hW, rfl⟩
    | true =>
      cases hs
      exact ⟨_, hW, rfl⟩
  | transfer f op meaning =>
    cases (meaning s).symm.trans h
    exact ⟨_, meaning _, congrArg (charge _) (op.ignores d i b hop s)⟩
  | nopMem m op operand penalty size meaning =>
    cases (meaning s).symm.trans h
    refine ⟨_, meaning _, ?_⟩
    simp only [resolve_withControlFlags, memRead_withControlFlags, withControlFlags_cfg]
    cases s.cfg.nopReadsOperand <;> rfl
  | nopImm v op operand size meaning =>
    cases (meaning s).symm.trans h
    exact ⟨_, meaning _, rfl⟩

/-! The packed status byte (10_state.md R28-R30) -/

theorem getStatus_eq_weights (p : Flags) :
    getStatus p = BitVec.ofNat 8 (p.n.toNat * 128 + p.v.toNat * 64 + 32 + p.b.toNat * 16 + p.d.toNat * 8 +
      p.i.toNat * 4 + p.z.toNat * 2 + p.c.toNat) := by
  obtain ⟨n, v, b, d, i, z, c⟩ := p
  revert n v b d i z c
  decide

theorem setStatus_getStatus (p : Flags) : setStatus (getStatus p) = p := by
  obtain ⟨n, v, b, d, i, z, c⟩ := p
  revert n v b d i z c
  decide

/-- Bit 5 has no storage: unpacking forgets it and packing sets it. -/
theorem getStatus_setStatus (x : Byte) : getStatus (setStatus x) = x ||| 0x20 := by
  revert x
  decide

theorem setStatus_xor_bit5 (x : Byte) : setStatus (x ^^^ 0x20) = setStatus x := by
  simp [setStatus]

/-- Settles O32: the packing by weights and the three round trips, one lemma each. -/
theorem statusPackingRoundTrips : Obligations.StatusPackingRoundTrips := by
  unfold Obligations.StatusPackingRoundTrips
  exact ⟨fun p => ⟨getStatus_eq_weights p, setStatus_getStatus p⟩,
    fun x => ⟨getStatus_setStatus x, setStatus_xor_bit5 x, rfl⟩⟩

/-! The reset (10_state.md R37, 70_reset_and_hazards.md R350) -/

/-- Settles O13: no cell listed, no access seen, an unbounded counter and no latch. -/
theorem resetMeetsTheInvariant : Obligations.ResetMeetsTheInvariant where
  memory_canonical := rfl
  history_in_window := by simp [State.reset]
  cycles_in_range w h := by simp [State.reset, defaults] at h
  fault_is_illegal e h := by simp [State.reset] at h

/-- Settles O57: the registers step of the reset, and the seeding of `PC` by `ENTRY_PC`. -/
theorem resetSetsEveryRegister : Obligations.ResetSetsEveryRegister := by
  unfold Obligations.ResetSetsEveryRegister
  refine ⟨fun s => ?_, by decide, rfl, rfl⟩
  have cfg : (resetRegisters s).cfg = s.cfg := rfl
  cases h : s.cfg.entryPc with
  | vector => simp only [resetMachine, seedPc, cfg, h]; rfl
  | address t => simp only [resetMachine, seedPc, cfg, h]; rfl

end Sys2Proof.Machine
end

section
/-! PROOFS for 20_memory.md. A canonical memory is determined by its bytes, no step writes the configuration or an array
cell under the device window, and the bus, word and stack accesses as the rules state them. -/

namespace Sys2Proof.Machine

/-! The bytes of a canonical memory determine it (20_memory.md R50, R51) -/

theorem Memory.lookup_cons_self (c : Host.Cell) (m : Memory) : Memory.lookup (c :: m) c.1 = c.2 := by
  simp [lookup]

theorem Memory.lookup_cons_of_ne {c : Host.Cell} {k : Nat} (m : Memory) (h : c.1 ≠ k) :
    Memory.lookup (c :: m) k = m.lookup k := by
  simp [lookup, h]

theorem Memory.le_address_of_wfFrom {k : Nat} {m : Memory} (hm : Memory.wfFrom k m = true) : ∀ c ∈ m, k ≤ c.1 := by
  induction m generalizing k with
  | nil => simp
  | cons c m ih =>
    obtain ⟨hk, -, -, tail⟩ := wfFrom_cons.mp hm
    rintro d (_ | ⟨_, hd⟩)
    · exact hk
    · have := ih tail d hd
      omega

theorem Memory.lookup_of_lt_wfFrom {j k : Nat} {m : Memory} (hm : Memory.wfFrom k m = true) (h : j < k) :
    m.lookup j = Memory.unlisted j :=
  lookup_of_forall_ne fun c hc => by
    have := le_address_of_wfFrom hm c hc
    omega

/-- The two memories read alike at every address of the array. -/
def Memory.AgreesWith (m n : Memory) : Prop := ∀ j < Config.memSize, m.lookup j = n.lookup j

theorem Memory.AgreesWith.symm {m n : Memory} (agree : m.AgreesWith n) : n.AgreesWith m :=
  fun j hj => (agree j hj).symm

/-- A canonical cell's byte is no unlisted one, so a memory that reads alike lists that address too. -/
theorem Memory.AgreesWith.head_listed {k : Nat} {c : Host.Cell} {m n : Memory} (agree : Memory.AgreesWith (c :: m) n)
    (hm : Memory.wfFrom k (c :: m) = true) : ∃ d ∈ n, d.1 = c.1 := by
  obtain ⟨-, inside, content, -⟩ := wfFrom_cons.mp hm
  by_contra! absent
  have reads := agree c.1 inside
  rw [lookup_cons_self, lookup_of_forall_ne absent] at reads
  exact content reads

theorem Memory.AgreesWith.head_le {j k : Nat} {c d : Host.Cell} {m n : Memory}
    (agree : Memory.AgreesWith (c :: m) (d :: n)) (hm : Memory.wfFrom j (c :: m) = true)
    (hn : Memory.wfFrom k (d :: n) = true) : d.1 ≤ c.1 := by
  obtain ⟨-, hd⟩ := wfFrom_cons.mp hn
  obtain ⟨e, he, address⟩ := agree.head_listed hm
  have := le_address_of_wfFrom (wfFrom_cons.mpr ⟨le_refl d.1, hd⟩) e he
  omega

/-- Up to the common head the tails list nothing, and above it the heads do not show. -/
theorem Memory.AgreesWith.tail {j : Nat} {v w : Byte} {m n : Memory}
    (agree : Memory.AgreesWith ((j, v) :: m) ((j, w) :: n)) (hm : Memory.wfFrom (j + 1) m = true)
    (hn : Memory.wfFrom (j + 1) n = true) : m.AgreesWith n := by
  intro i hi
  by_cases h : i ≤ j
  · rw [lookup_of_lt_wfFrom hm (by omega), lookup_of_lt_wfFrom hn (by omega)]
  · have ne : j ≠ i := by omega
    have := agree i hi
    rwa [lookup_cons_of_ne m ne, lookup_cons_of_ne n ne] at this

/-- Canonical memories that agree are equal: cell by cell, the heads have one address and one byte. -/
theorem Memory.AgreesWith.eq {k : Nat} {m n : Memory} (agree : m.AgreesWith n) (hm : Memory.wfFrom k m = true)
    (hn : Memory.wfFrom k n = true) : m = n := by
  induction m generalizing k n with
  | nil =>
    cases n with
    | nil => rfl
    | cons d n => simpa using agree.symm.head_listed hn
  | cons c m ih =>
    cases n with
    | nil => simpa using agree.head_listed hm
    | cons d n =>
      obtain ⟨i, v⟩ := c
      obtain ⟨j, w⟩ := d
      obtain rfl : i = j := le_antisymm (agree.symm.head_le hn hm) (agree.head_le hm hn)
      obtain ⟨-, inside, -, mtail⟩ := wfFrom_cons.mp hm
      obtain ⟨-, -, -, ntail⟩ := wfFrom_cons.mp hn
      have bytes := agree i inside
      obtain rfl : v = w := by rwa [lookup_cons_self (i, v), lookup_cons_self (i, w)] at bytes
      rw [ih (agree.tail mtail ntail) mtail ntail]

/-- Settles O14: memories that read alike at every 16-bit address agree on the whole array. -/
theorem equalMemoriesAreEqualData : Obligations.EqualMemoriesAreEqualData := by
  unfold Obligations.EqualMemoriesAreEqualData
  intro m n hm hn reads
  have agree : m.AgreesWith n := fun j hj => reads (BitVec.ofNatLT j hj)
  exact agree.eq hm hn

/-! Every step (20_memory.md R61-R63) -/

/-- Settles O15: all four are among what a step that completes keeps. -/
theorem stepsNeverWriteConfigurationOrWindowCells : Obligations.StepsNeverWriteConfigurationOrWindowCells := by
  unfold Obligations.StepsNeverWriteConfigurationOrWindowCells
  intro s t h
  have kept := step_keeps h
  exact ⟨kept.cfg, kept.pcSeeded, kept.cells, kept.history⟩

/-! Byte accesses inside and outside the window (20_memory.md R61-R64) -/

theorem inWindow_iff_mem (a : Word) : inWindow a = true ↔
    a ∈ [0x2000, 0x2001, 0x2002, 0x2003, 0x2004, 0x2005, 0x2006, 0x2007, (0x4014 : Word)] := by
  simp only [inWindow, Bool.or_eq_true, Bool.and_eq_true, decide_eq_true_eq, List.mem_cons, List.not_mem_nil, or_false,
    BitVec.toNat_eq, BitVec.reduceToNat]
  omega

/-- Settles O24: the nine addresses, and what a read and a write in the window do. -/
theorem windowIsNineAddressesRoutedToTheDevice : Obligations.WindowIsNineAddressesRoutedToTheDevice := by
  unfold Obligations.WindowIsNineAddressesRoutedToTheDevice
  exact ⟨inWindow_iff_mem, fun s a v h => ⟨memRead_window h s, memWrite_window h v s⟩⟩

/-- Settles O25: outside the window both accesses are those of the array. -/
theorem plainStorageReadsTheLastByteWritten : Obligations.PlainStorageReadsTheLastByteWritten := by
  unfold Obligations.PlainStorageReadsTheLastByteWritten
  intro s a v h
  rw [memWrite_plain h]
  refine ⟨?_, ?_, rfl, fun a' h' ne => ?_⟩
  · rw [memRead_plain h, State.setMem_mem, Memory.read_write_self]
  · rw [memRead_plain h]
  · rw [memRead_plain h', memRead_plain h', State.setMem_mem, Memory.read_write_of_ne _ _ ne]

/-! Words and their bytes (20_memory.md R53-R57) -/

theorem wordOf_eq_shift_or (lo hi : Byte) : wordOf lo hi = (hi.setWidth 16 <<< 8) ||| lo.setWidth 16 := by
  rw [wordOf, BitVec.append_def, BitVec.shiftLeftZeroExtend_eq, BitVec.setWidth'_eq]

theorem lowByte_eq_setWidth (w : Word) : lowByte w = w.setWidth 8 := by
  rw [lowByte, BitVec.setWidth_eq_extractLsb' (by decide)]

theorem highByte_eq_setWidth_shift (w : Word) : highByte w = (w >>> 8).setWidth 8 := by
  rw [highByte, BitVec.setWidth_ushiftRight_eq_extractLsb]

/-- Settles O26: the two byte accesses in order, with the word's bytes as shifts. -/
theorem wordAccessesAreLittleEndian : Obligations.WordAccessesAreLittleEndian := by
  unfold Obligations.WordAccessesAreLittleEndian
  intro s a w
  rw [memRead16, memWrite16, wordOf_eq_shift_or, lowByte_eq_setWidth, highByte_eq_setWidth_shift]
  exact ⟨rfl, rfl⟩

/-! The stack (20_memory.md R58, R59) -/

/-- Settles O27: a push and a pop as equations, at any `SP` and at the two ends of the page. -/
theorem pushAndPopWrapInTheStackPage : Obligations.PushAndPopWrapInTheStackPage := by
  unfold Obligations.PushAndPopWrapInTheStackPage
  intro s v
  refine ⟨push_eq v s, pop_eq s, fun bottom => ?_, fun top => ?_⟩
  · rw [push_eq, bottom]
    rfl
  · rw [pop_eq, top]
    rfl

end Sys2Proof.Machine
end

section
/-! PROOFS for 30_encoding.md. The decoder and the encoder are inverse, a step runs the instruction whose bytes the
fetch reads, and what the addressing modes resolve to; then, over the shapes, where an instruction stores, what it
costs and where it leaves `PC`. -/

namespace Sys2Proof.Machine

open Sys2Proof.Laws Sys2Proof.Stated

/-! Descriptors (30_encoding.md R80-R86, R116) -/

/-- Every instruction's row leads the decoder map to it. -/
theorem tableRow (i : Instr) : TableRow.Statement i :=
  open TableRow in
  i.casesOn
    adcImm adcZp adcZpx adcAbs adcAbx adcAby adcIzx adcIzy sbcImm sbcZp sbcZpx sbcAbs sbcAbx sbcAby sbcIzx sbcIzy
    andImm andZp andZpx andAbs andAbx andAby andIzx andIzy oraImm oraZp oraZpx oraAbs oraAbx oraAby oraIzx oraIzy
    eorImm eorZp eorZpx eorAbs eorAbx eorAby eorIzx eorIzy bitZp bitAbs cmpImm cmpZp cmpZpx cmpAbs cmpAbx cmpAby
    cmpIzx cmpIzy cpxImm cpxZp cpxAbs cpyImm cpyZp cpyAbs incZp incZpx incAbs incAbx decZp decZpx decAbs decAbx inx
    iny dex dey
    aslAcc aslZp aslZpx aslAbs aslAbx lsrAcc lsrZp lsrZpx lsrAbs lsrAbx rolAcc rolZp rolZpx rolAbs rolAbx rorAcc
    rorZp rorZpx rorAbs rorAbx
    bcc bcs beq bmi bne bpl bvc bvs jmpAbs jmpInd jsr rts brk rti
    ldaImm ldaZp ldaZpx ldaAbs ldaAbx ldaAby ldaIzx ldaIzy ldxImm ldxZp ldxZpy ldxAbs ldxAby ldyImm ldyZp ldyZpx
    ldyAbs ldyAbx laxZp laxZpy laxAbs laxAby laxIzx laxIzy staZp staZpx staAbs staAbx staAby staIzx staIzy stxZp
    stxZpy stxAbs styZp styZpx styAbs tax tay txa tya tsx txs pha php pla plp
    clc sec cli sei cld sed clv nop nop1A nop3A nop5A nop7A nopDA nopFA nop80 nop82 nop89 nopC2 nopE2 nop04 nop44
    nop64 nop14 nop34 nop54 nop74 nopD4 nopF4 nop0C nop1C nop3C nop5C nop7C nopDC nopFC

theorem decodeOpcode_eq_some_iff {c : Config} {op : Byte} {e : OpcodeEntry} :
    decodeOpcode c op = some e ↔ opcodeEnabled c op = true ∧ opcodeEntry op.toNat = some e := by
  rw [decodeOpcode, Option.ite_none_right_eq_some]

theorem decodeOpcode_eq_none {c : Config} {op : Byte} (h : opcodeEntry op.toNat = none) : decodeOpcode c op = none := by
  rw [decodeOpcode, h, ite_self]

theorem opcodeEnabled_iff_of_informal (c : Config) {op : Byte} (h : op ∈ informalBytes) :
    opcodeEnabled c op = true ↔ op ∈ c.informalOpcodes := by
  simp [opcodeEnabled, h]

theorem opcodeEntry_eq_none_of_illegal : ∀ op ∈ illegalBytes, opcodeEntry op.toNat = none := by decide

theorem opcodeEntry_isSome_of_informal : ∀ op ∈ informalBytes, (opcodeEntry op.toNat).isSome = true := by decide

theorem decodeOpcode_isSome_of_informal (c : Config) {op : Byte} (h : op ∈ informalBytes) :
    (decodeOpcode c op).isSome = true ↔ op ∈ c.informalOpcodes := by
  obtain ⟨e, entry⟩ := Option.isSome_iff_exists.mp (opcodeEntry_isSome_of_informal op h)
  simp [Option.isSome_iff_exists, decodeOpcode_eq_some_iff, entry, opcodeEnabled_iff_of_informal c h]

/-! Decoding and encoding (30_encoding.md R80-R86, R116) -/

theorem decode_of_applyEntry {c : Config} {op : Byte} {e : OpcodeEntry} {operand : List Byte} {i : Instr}
    (descriptor : decodeOpcode c op = some e) (applied : applyEntry e operand = some i) (rest : List Byte) :
    decode c (op :: (operand ++ rest)) = .ok (i, rest) := by
  unfold applyEntry at applied
  split at applied <;> cases applied <;> simp [decode, descriptor]

theorem decode_ok_inv {c : Config} {bytes rest : List Byte} {i : Instr} (h : decode c bytes = .ok (i, rest)) :
    ∃ op e operand, decodeOpcode c op = some e ∧ applyEntry e operand = some i ∧ bytes = op :: (operand ++ rest) := by
  unfold decode at h
  split at h
  case h_1 => cases h
  case h_2 op tail =>
    split at h
    case h_1 => cases h
    case h_2 j descriptor =>
      cases h
      exact ⟨op, _, [], descriptor, rfl, rfl⟩
    case h_3 f descriptor =>
      split at h <;> cases h
      exact ⟨op, _, [_], descriptor, rfl, rfl⟩
    case h_4 f descriptor =>
      split at h <;> cases h
      exact ⟨op, _, [_, _], descriptor, rfl, rfl⟩

theorem encode_of_applyEntry {op : Byte} {e : OpcodeEntry} {operand : List Byte} {i : Instr}
    (entry : opcodeEntry op.toNat = some e) (applied : applyEntry e operand = some i) : encode i = op :: operand := by
  have encodes := opcodeEntry_encodes op.toNat op.isLt
  rw [entry] at encodes
  unfold applyEntry at applied
  split at applied <;> cases applied
  case h_1 => simpa [EntryEncodes] using encodes
  case h_2 f b => simpa using encodes b
  case h_3 f lo hi => simpa using encodes (wordOf lo hi)

/-- Settles O1: the instruction's row gives the descriptor of its opcode byte, and its operand bytes make it again. -/
theorem decodeOfEncodeIsTheInstruction : Obligations.DecodeOfEncodeIsTheInstruction := by
  unfold Obligations.DecodeOfEncodeIsTheInstruction
  intro c i rest wellFormed
  obtain ⟨e, entry, -, applied⟩ := tableRow i
  exact decode_of_applyEntry (decodeOpcode_eq_some_iff.mpr ⟨wellFormed, entry⟩) applied rest

/-- Settles O2: a decoded instruction is made by the descriptor of the first byte, which encodes what it makes. -/
theorem decodedBytesAreTheEncoding : Obligations.DecodedBytesAreTheEncoding := by
  unfold Obligations.DecodedBytesAreTheEncoding
  intro c bytes rest i h
  obtain ⟨op, e, operand, descriptor, applied, rfl⟩ := decode_ok_inv h
  obtain ⟨enabled, entry⟩ := decodeOpcode_eq_some_iff.mp descriptor
  have encoded := encode_of_applyEntry entry applied
  obtain ⟨rfl, -⟩ := List.cons.inj encoded
  exact ⟨by rw [encoded, List.cons_append], enabled⟩

/-- Settles O3: each word is run through the decoder. -/
theorem specWordsDecode : Obligations.SpecWordsDecode :=
  ⟨rfl, rfl, rfl, rfl, rfl, rfl, rfl, rfl, rfl, rfl, rfl, rfl⟩

/-- Settles O4: the decoder map has no entry for these bytes, so a fetch of one finds no instruction. -/
theorem bytesWithoutDescriptorTrap : Obligations.BytesWithoutDescriptorTrap := by
  unfold Obligations.BytesWithoutDescriptorTrap
  have noDescriptor (c : Config) (op : Byte) (h : op ∈ illegalBytes) : decodeOpcode c op = none :=
    decodeOpcode_eq_none (opcodeEntry_eq_none_of_illegal op h)
  exact ⟨fun c op h => Option.isNone_iff_eq_none.mpr (noDescriptor c op h),
    fun s ready h => step_illegal ready (fetch_none (noDescriptor s.cfg _ h))⟩

/-- Settles O5: an informal byte has an entry, and is enabled exactly when the parameter lists it. -/
theorem informalOpcodesFollowTheParameter : Obligations.InformalOpcodesFollowTheParameter := by
  unfold Obligations.InformalOpcodesFollowTheParameter
  exact ⟨rfl, fun op h => (decodeOpcode_isSome_of_informal defaults h).mpr h,
    fun c op h => decodeOpcode_isSome_of_informal c h⟩

/-! The fetch as successive byte reads (30_encoding.md R80, R107) -/

theorem memOperand_bytes_length (m : MemOperand) : m.bytes.length + 1 = m.mode.size := by
  cases m <;> rfl

theorem encode_length (i : Instr) : (encode i).length = i.size := by
  rw [encode, List.length_cons, Instr.size]
  cases i.row.operand with
  | mem m => exact memOperand_bytes_length m
  | imp | acc | imm | rel | jabs | jind => rfl

/-- The fetch makes as many byte reads as the descriptor's size, and its operand bytes are those after the first. -/
theorem fetch_of_readBytes {s : State} {e : OpcodeEntry} {i : Instr}
    (descriptor : decodeOpcode s.cfg (memRead s.pc s).1 = some e)
    (applied : applyEntry e (readBytes e.size s.pc s).1.tail = some i) :
    fetch s = .instruction i (readBytes e.size s.pc s).1 (readBytes e.size s.pc s).2 := by
  have next : s.pc + 1 + 1 = s.pc + 2 := BitVec.add_assoc _ _ _
  cases e with
  | one j =>
    obtain rfl : j = i := Option.some.inj applied
    exact fetch_one descriptor
  | two f =>
    obtain rfl := Option.some.inj applied
    exact fetch_two descriptor
  | three f =>
    simp only [OpcodeEntry.size, readBytes, next] at applied ⊢
    obtain rfl := Option.some.inj applied
    exact fetch_three descriptor

theorem readBytes_plain {bytes : List Byte} {a : Word} {s : State}
    (h : ∀ k (hk : k < bytes.length),
      inWindow (a + BitVec.ofNat 16 k) = false ∧ s.mem.read (a + BitVec.ofNat 16 k) = bytes[k]) :
    readBytes bytes.length a s = (bytes, s) := by
  induction bytes generalizing a with
  | nil => rfl
  | cons b bytes ih =>
    obtain ⟨plain, first⟩ := h 0 (Nat.zero_lt_succ _)
    have tail : readBytes bytes.length (a + 1) s = (bytes, s) := ih fun k hk => by
      have address : a + 1 + BitVec.ofNat 16 k = a + BitVec.ofNat 16 (k + 1) := by
        rw [BitVec.add_assoc, BitVec.add_comm 1, BitVec.ofNat_add]
        rfl
      rw [address]
      exact h (k + 1) (Nat.succ_lt_succ hk)
    rw [BitVec.add_zero] at plain first
    rw [List.length_cons, readBytes, memRead_plain plain, tail, first]
    rfl

/-- Settles O6: the first byte read is the opcode of the instruction's row, and the others make the instruction. -/
theorem stepRunsTheDecodedInstruction : Obligations.StepRunsTheDecodedInstruction := by
  unfold Obligations.StepRunsTheDecodedInstruction
  intro s i ready wellFormed bytes
  obtain ⟨e, entry, size, applied⟩ := tableRow i
  have opcode : (memRead s.pc s).1 = i.row.opcode := (List.cons.inj bytes).1
  have descriptor : decodeOpcode s.cfg (memRead s.pc s).1 = some e := by
    rw [opcode]
    exact decodeOpcode_eq_some_iff.mpr ⟨wellFormed, entry⟩
  rw [encode_length, ← size] at bytes ⊢
  exact step_instruction ready (fetch_of_readBytes descriptor (by rw [bytes]; exact applied))

/-- Settles O7: in plain memory the byte reads give the array bytes and change nothing. -/
theorem stepFromPlainMemoryIsExec : Obligations.StepFromPlainMemoryIsExec := by
  unfold Obligations.StepFromPlainMemoryIsExec
  intro s i ready wellFormed plain
  have reads : readBytes (encode i).length s.pc s = (encode i, s) := readBytes_plain plain
  rw [stepRunsTheDecodedInstruction s i ready wellFormed (by rw [reads]), reads]

/-! Addressing modes (30_encoding.md R87-R105) -/

theorem zext_toNat_lt (b : Byte) : (zext b).toNat < 0x100 := by
  rw [zext, BitVec.toNat_setWidth_of_le (by decide)]
  exact b.isLt

theorem pagesDiffer_eq_decide_shift (a b : Word) : pagesDiffer a b = decide ((a >>> 8) ≠ (b >>> 8)) := by
  have pages (w : Word) : (highByte w).toNat = (w >>> 8).toNat := by
    have := w.isLt
    rw [highByte_eq_setWidth_shift, BitVec.toNat_setWidth, BitVec.toNat_ushiftRight, Nat.shiftRight_eq_div_pow]
    omega
  simp only [pagesDiffer, ne_eq, BitVec.toNat_eq, pages]

theorem wordBytes_eq_shift (w : Word) : wordBytes w = [w.setWidth 8, (w >>> 8).setWidth 8] := by
  rw [wordBytes, lowByte_eq_setWidth, highByte_eq_setWidth_shift]

theorem indexed_eq_shift (base : Word) (index : Byte) (s : State) :
    indexed base index s =
      ⟨base + index.setWidth 16, decide ((base >>> 8) ≠ ((base + index.setWidth 16) >>> 8)), s⟩ := by
  rw [indexed, pagesDiffer_eq_decide_shift, zext]

theorem readPointer_eq_shift (p : Byte) (s : State) :
    readPointer p s =
      let lo := memRead (p.setWidth 16) s
      let hi := memRead (if s.cfg.zpPointerWrap then (p + 1).setWidth 16 else p.setWidth 16 + 1) lo.2
      ((hi.1.setWidth 16 <<< 8) ||| lo.1.setWidth 16, hi.2) := by
  simp only [readPointer, pointerHighAddress, zext, wordOf_eq_shift_or]

/-- Only an indexed mode crosses a page (30_encoding.md R103). -/
theorem resolve_crossed_of_not_indexed {m : MemOperand} (h : indexedMode m.mode = false) (s : State) :
    (resolve m s).crossed = false := by
  cases m with
  | abx | aby | izy => cases h
  | zp | zpx | zpy | abs | izx => rfl

/-- The form `ZeroPageY` belongs to `LDX`, `STX` and `LAX` (30_encoding.md R93). -/
theorem operation_of_zpy {i : Instr} {z : Byte} (h : i.row.operand = .mem (.zpy z)) :
    i.row.operation ∈ [.LDX, .STX, .LAX] := by
  cases i <;> cases h <;> simp [Instr.row]

/-- Settles O28: the resolver's own equations, with pages and operand bytes as shifts. -/
theorem directAndIndexedModesResolve : Obligations.DirectAndIndexedModesResolve := by
  unfold Obligations.DirectAndIndexedModesResolve
  intro s z w
  exact ⟨rfl, rfl, rfl, rfl, indexed_eq_shift w s.x s, indexed_eq_shift w s.y s, rfl, rfl, rfl,
    wordBytes_eq_shift w, wordBytes_eq_shift w, wordBytes_eq_shift w, fun _ => operation_of_zpy⟩

/-- Settles O29: the pointer's two reads as the resolver makes them, with words and pages as shifts. -/
theorem indirectModesReadTheirPointers : Obligations.IndirectModesReadTheirPointers := by
  unfold Obligations.IndirectModesReadTheirPointers
  intro s z
  refine ⟨?_, ?_, rfl, rfl⟩
  · rw [resolve, readPointer_eq_shift]
  · rw [resolve, readPointer_eq_shift, indexed_eq_shift]

/-- Settles O30: the zero-page addresses are bytes made words, and only an indexed mode crosses. -/
theorem zeroPageAddressesNeverLeaveThePage : Obligations.ZeroPageAddressesNeverLeaveThePage := by
  unfold Obligations.ZeroPageAddressesNeverLeaveThePage
  intro s m
  refine ⟨fun h => ?_, fun p wraps => ?_, fun crossed => ?_⟩
  · cases m with
    | zp | zpx | zpy => exact zext_toNat_lt _
    | abs | abx | aby | izx | izy => simp [MemOperand.mode] at h
  · rw [pointerHighAddress, if_pos wraps]
    exact zext_toNat_lt _
  · cases m with
    | abx | aby | izy => simp [MemOperand.mode]
    | zp | zpx | zpy | abs | izx =>
      rw [resolve_crossed_of_not_indexed rfl] at crossed
      cases crossed

/-- Settles O31: resolving and reading change the device history only. -/
theorem operandReadsTouchOnlyTheDeviceHistory : Obligations.OperandReadsTouchOnlyTheDeviceHistory := by
  unfold Obligations.OperandReadsTouchOnlyTheDeviceHistory
  intro s m v
  exact ⟨resolve_after m s, rfl, rfl, rfl, readOperand_after (.mem m) s⟩

/-! Where an instruction stores (30_encoding.md R105, R112) -/

theorem memWrite_read_of_ne {a b : Word} (v : Byte) (s : State) (h : b ≠ a) :
    (memWrite a v s).mem.read b = s.mem.read b := by
  rw [memWrite_mem]
  split
  · rfl
  · exact Memory.read_write_of_ne _ _ h

theorem push_read_of_ne {b : Word} (v : Byte) (s : State) (h : b ≠ stackAddress s.sp) :
    (push v s).mem.read b = s.mem.read b :=
  memWrite_read_of_ne v s h

theorem ReadOp.mem {op : Operation} {f : Byte → State → State} (h : ReadOp op f) (m : Byte) (s : State) :
    (f m s).mem = s.mem := by
  cases h <;> rfl

theorem storedAddresses_of_modify {i : Instr} {f : Byte → Flags → Byte × Flags} {m : MemOperand}
    (op : ModifyOp i.row.operation f) (operand : i.row.operand = .mem m) (s : State) :
    storedAddresses i s = [(resolve m s).ea] := by
  rw [storedAddresses, operand]
  generalize i.row.operation = name at op
  cases op <;> rfl

theorem storedAddresses_of_store {i : Instr} {v : State → Byte} {m : MemOperand} (op : StoreOp i.row.operation v)
    (operand : i.row.operand = .mem m) (s : State) : storedAddresses i s = [(resolve m s).ea] := by
  rw [storedAddresses, operand]
  generalize i.row.operation = name at op
  cases op <;> rfl

theorem ImpliedOp.read_of_not_stored {i : Instr} {f : State → State} (op : ImpliedOp i.row.operation f) (s : State)
    {a : Word} (h : a ∉ storedAddresses i s) : (f s).mem.read a = s.mem.read a := by
  rw [storedAddresses] at h
  generalize i.row.operation = name at op h
  cases op with
  | pha | php => exact push_read_of_ne _ s (List.ne_of_not_mem_cons h)
  | pla => simp only [opPla, pop_eq]; rfl
  | plp => simp only [opPlp, pop_eq]; rfl
  | inx | iny | dex | dey | tax | tay | txa | tya | tsx | txs | clc | sec | cli | sei | cld | sed | clv | nop => rfl

theorem TransferOp.read_of_not_stored {i : Instr} {f : State → State}
    (op : TransferOp i.row.operation i.row.operand f) (s : State) {a : Word}
    (h : a ∉ storedAddresses i s) : (f s).mem.read a = s.mem.read a := by
  rw [storedAddresses] at h
  generalize i.row.operation = name, i.row.operand = o at op h
  cases op with
  | jmp w => rfl
  | jmpIndirect w => simp [opJmpIndirect, jumpTarget]
  | jsr w =>
    obtain ⟨first, second⟩ : a ≠ stackAddress s.sp ∧ a ≠ stackAddress (s.sp - 1) := by simpa using h
    exact (push_read_of_ne _ _ second).trans (push_read_of_ne _ s first)
  | rts => simp only [opRts, pop_eq]; rfl
  | brk =>
    have third_sp : s.sp - 1 - 1 = s.sp - 2 := BitVec.sub_sub s.sp 1 1
    obtain ⟨first, second, third⟩ :
        a ≠ stackAddress s.sp ∧ a ≠ stackAddress (s.sp - 1) ∧ a ≠ stackAddress (s.sp - 2) := by simpa using h
    rw [takeTrap_eq, third_sp]
    simp only [Memory.read_write_of_ne _ _ first, Memory.read_write_of_ne _ _ second,
      Memory.read_write_of_ne _ _ third]
  | rti => rw [returnFromTrap_eq]

/-- Settles O20: by shape, the writes are one at the resolved operand or the pushes of the operation. -/
theorem memoryChangesOnlyWhereStored : Obligations.MemoryChangesOnlyWhereStored := by
  unfold Obligations.MemoryChangesOnlyWhereStored
  intro i s t h a notStored
  cases shape i with
  | read f src op operand penalty size meaning =>
    cases (meaning s).symm.trans h
    rw [advance_eq, op.mem, readOperand_mem]
  | modify f place op operand penalty size meaning =>
    cases place with
    | acc =>
      cases (meaning s).symm.trans h
      rfl
    | mem m =>
      cases (meaning s).symm.trans h
      rw [storedAddresses_of_modify op operand] at notStored
      rw [advance_eq, State.setP_mem, memWrite_read_of_ne _ _ (List.ne_of_not_mem_cons notStored), memRead_mem,
        resolve_mem]
  | store v m op operand penalty size meaning =>
    cases (meaning s).symm.trans h
    rw [storedAddresses_of_store op operand] at notStored
    rw [advance_eq, memWrite_read_of_ne _ _ (List.ne_of_not_mem_cons notStored), resolve_mem]
  | implied f op operand size meaning =>
    cases (meaning s).symm.trans h
    exact op.read_of_not_stored s notStored
  | branch taken off op operand meaning =>
    have branches := (meaning s).symm.trans h
    generalize taken s = condition at branches
    cases condition with
    | true => cases branches; rfl
    | false => cases branches; rfl
  | transfer f op meaning =>
    cases (meaning s).symm.trans h
    exact op.read_of_not_stored s notStored
  | nopMem m op operand penalty size meaning =>
    cases (meaning s).symm.trans h
    rw [advance_eq]
    split <;> simp
  | nopImm v op operand size meaning =>
    cases (meaning s).symm.trans h
    rfl

/-! What an instruction costs and where it leaves `PC` (30_encoding.md R107-R111) -/

theorem extraCycles_of_mem {i : Instr} {m : MemOperand} (operand : i.row.operand = .mem m) (s : State) :
    extraCycles i s = if i.row.pagePenalty then (resolve m s).crossed.toNat else 0 := by
  rw [extraCycles, operand]

/-- A row with `page_cross_cycle` is exactly one whose mode can cross, so its surcharge is the page-cross bit. -/
theorem extraCycles_of_penalty {i : Instr} {m : MemOperand} (operand : i.row.operand = .mem m)
    (penalty : i.row.pagePenalty = indexedMode m.mode) (s : State) :
    extraCycles i s = (resolve m s).crossed.toNat := by
  rw [extraCycles_of_mem operand, penalty]
  cases mode : indexedMode m.mode with
  | true => rfl
  | false => rw [resolve_crossed_of_not_indexed mode]; rfl

theorem extraCycles_of_no_penalty {i : Instr} {m : MemOperand} (operand : i.row.operand = .mem m)
    (penalty : i.row.pagePenalty = false) (s : State) : extraCycles i s = 0 := by
  rw [extraCycles_of_mem operand, penalty]
  rfl

theorem extraCycles_of_source {i : Instr} {src : Source} (operand : i.row.operand = sourceOperand src)
    (penalty : i.row.pagePenalty = indexedMode (sourceOperand src).mode) (s : State) :
    extraCycles i s = (readOperand src s).crossed.toNat := by
  cases src with
  | imm v => rw [extraCycles, operand]; rfl
  | mem m => exact extraCycles_of_penalty operand penalty s

theorem extraCycles_of_branch {i : Instr} {taken : State → Bool} {off : Byte} (op : BranchOp i.row.operation taken)
    (operand : i.row.operand = .rel off) (s : State) :
    extraCycles i s = if taken s then 1 + (pagesDiffer (branchNext s) (branchTarget off s)).toNat else 0 := by
  rw [extraCycles, operand]
  generalize i.row.operation = name at op
  cases op <;> rfl

theorem extraCycles_of_transfer {i : Instr} {f : State → State} (op : TransferOp i.row.operation i.row.operand f)
    (s : State) : extraCycles i s = 0 := by
  rw [extraCycles]
  generalize i.row.operation = name, i.row.operand = o at op
  cases op <;> rfl

theorem BranchOp.mem_controlTransfers {op : Operation} {taken : State → Bool} (h : BranchOp op taken) :
    op ∈ controlTransfers := by
  cases h <;> decide

theorem TransferOp.mem_controlTransfers {op : Operation} {o : Operand} {f : State → State} (h : TransferOp op o f) :
    op ∈ controlTransfers := by
  cases h <;> decide

theorem TransferOp.cyc {op : Operation} {o : Operand} {f : State → State} (h : TransferOp op o f) (s : State) :
    (f s).cyc = s.cyc := by
  cases h with
  | jmp w => rfl
  | jmpIndirect w => simp [opJmpIndirect, jumpTarget]
  | jsr w => simp only [opJsr, push_eq]; rfl
  | rts => simp only [opRts, pop_eq]; rfl
  | brk => rw [takeTrap_eq]
  | rti => rw [returnFromTrap_eq]

/-- `PC`, `CYC` and the configuration, by which an instruction's end is computed, are the same in both states. -/
structure SameCounters (s u : State) : Prop where
  pc : u.pc = s.pc
  cyc : u.cyc = s.cyc
  cfg : u.cfg = s.cfg

theorem SameCounters.trans {s t u : State} (h : SameCounters s t) (k : SameCounters t u) : SameCounters s u :=
  ⟨k.pc.trans h.pc, k.cyc.trans h.cyc, k.cfg.trans h.cfg⟩

theorem ReadOp.sameCounters {op : Operation} {f : Byte → State → State} (h : ReadOp op f) (m : Byte) (s : State) :
    SameCounters s (f m s) := by
  cases h <;> exact ⟨rfl, rfl, rfl⟩

theorem ImpliedOp.sameCounters {op : Operation} {f : State → State} (h : ImpliedOp op f) (s : State) :
    SameCounters s (f s) := by
  cases h with
  | pha => rw [opPha, push_eq]; exact ⟨rfl, rfl, rfl⟩
  | php => rw [opPhp, push_eq]; exact ⟨rfl, rfl, rfl⟩
  | pla => simp only [opPla, pop_eq]; exact ⟨rfl, rfl, rfl⟩
  | plp => simp only [opPlp, pop_eq]; exact ⟨rfl, rfl, rfl⟩
  | inx | iny | dex | dey | tax | tay | txa | tya | tsx | txs | clc | sec | cli | sei | cld | sed | clv | nop =>
    exact ⟨rfl, rfl, rfl⟩

/-- How an instruction ends: at the cost of R109, and past its bytes unless it is a control transfer (R107, R108). -/
structure Ends (i : Instr) (s t : State) : Prop where
  cyc : t.cyc = cycleValue s.cfg (s.cyc + (i.row.baseCycles + extraCycles i s))
  pc : i.row.operation ∉ controlTransfers → t.pc = pcPast i s

theorem Ends.of_advance {i : Instr} {s u : State} {size extra : Nat} (same : SameCounters s u)
    (length : (encode i).length = size) (surcharge : extraCycles i s = extra) :
    Ends i s (advance size (i.row.baseCycles + extra) u) := by
  subst length surcharge
  exact ⟨by rw [advance_eq, same.cyc, same.cfg], fun _ => by rw [advance_eq, same.pc, pcPast]⟩

theorem Ends.of_charge {i : Instr} {s u : State} {extra : Nat} (cyc : u.cyc = s.cyc) (cfg : u.cfg = s.cfg)
    (op : i.row.operation ∈ controlTransfers) (surcharge : extraCycles i s = extra) :
    Ends i s (charge (i.row.baseCycles + extra) u) := by
  subst surcharge
  exact ⟨by rw [charge_eq, cyc, cfg], absurd op⟩

theorem exec_ends {i : Instr} {s t : State} (h : exec i s = .next t) : Ends i s t := by
  cases shape i with
  | read f src op operand penalty size meaning =>
    cases (meaning s).symm.trans h
    have reads : SameCounters s (readOperand src s).after := ⟨by simp, by simp, by simp⟩
    exact .of_advance (reads.trans (op.sameCounters _ _)) size (extraCycles_of_source operand penalty s)
  | modify f place op operand penalty size meaning =>
    cases place with
    | acc =>
      cases (meaning s).symm.trans h
      exact Ends.of_advance (s := s) (extra := 0) ⟨rfl, rfl, rfl⟩ size (by rw [extraCycles, operand]; rfl)
    | mem m =>
      cases (meaning s).symm.trans h
      exact .of_advance ⟨by simp, by simp, by simp⟩ size (extraCycles_of_no_penalty operand penalty s)
  | store v m op operand penalty size meaning =>
    cases (meaning s).symm.trans h
    exact .of_advance ⟨by simp, by simp, by simp⟩ size (extraCycles_of_no_penalty operand penalty s)
  | implied f op operand size meaning =>
    cases (meaning s).symm.trans h
    exact .of_advance (op.sameCounters s) size (by rw [extraCycles, operand])
  | branch taken off op operand meaning =>
    have branches := (meaning s).symm.trans h
    have surcharge := extraCycles_of_branch op operand s
    generalize taken s = condition at branches surcharge
    cases condition with
    | true => cases branches; exact .of_charge rfl rfl op.mem_controlTransfers surcharge
    | false => cases branches; exact Ends.of_charge (extra := 0) rfl rfl op.mem_controlTransfers surcharge
  | transfer f op meaning =>
    cases (meaning s).symm.trans h
    exact .of_charge (op.cyc s) (op.keeps s).cfg op.mem_controlTransfers (extraCycles_of_transfer op s)
  | nopMem m op operand penalty size meaning =>
    cases (meaning s).symm.trans h
    refine .of_advance ?_ size (extraCycles_of_penalty operand penalty s)
    split <;> exact ⟨by simp, by simp, by simp⟩
  | nopImm v op operand size meaning =>
    cases (meaning s).symm.trans h
    exact Ends.of_advance (s := s) (extra := 0) ⟨rfl, rfl, rfl⟩ size (by rw [extraCycles, operand])

/-- Settles O21: the cost with which every instruction ends. -/
theorem cycleCostOfEveryInstruction : Obligations.CycleCostOfEveryInstruction := by
  unfold Obligations.CycleCostOfEveryInstruction
  intro i s t h
  rw [(exec_ends h).cyc, Nat.add_assoc]

/-- Settles O22: the `PC` with which every instruction but a control transfer ends. -/
theorem pcAdvancesPastTheInstruction : Obligations.PcAdvancesPastTheInstruction := by
  unfold Obligations.PcAdvancesPastTheInstruction
  intro i s t op h
  exact (exec_ends h).pc op

end Sys2Proof.Machine
end

section
/-! PROOFS for 40_arithmetic_logic.md. The statements' shapes `Reads`, `Modifies` and `Plain` are the shared operations
`readInstr`, `modifyInstr` and `impliedInstr` for any list of forms; then each instruction's forms, and the exact carry
and overflow of the sum and of the difference. -/

namespace Sys2Proof.Machine

open Sys2Proof.Stated

/-! The shapes of the statements (30_encoding.md R104-R112) -/

theorem ReadOp.setPpuLog {op : Operation} {f : Byte → State → State} (h : ReadOp op f) (m : Byte)
    (l : List PpuEvent) (s : State) : f m (s.setPpuLog l) = (f m s).setPpuLog l := by
  cases h <;> rfl

theorem sourceBytes_length (src : Source) : (sourceBytes src).length + 1 = sourceSize src := by
  cases src with
  | imm v => rfl
  | mem m => exact memOperand_bytes_length m

theorem placeBytes_length (place : Place) : (placeBytes place).length + 1 = (placeOperand place).mode.size := by
  cases place with
  | acc => rfl
  | mem m => exact memOperand_bytes_length m

/-- What a reading instruction answers, from the state before it: only the device history comes from the reads. -/
theorem readInstr_eq {op : Operation} {f : Byte → State → State} (h : ReadOp op f) (src : Source) (base : Nat)
    (s : State) :
    readInstr f src base s = .next
      { f (readOperand src s).value s with
        pc := s.pc + BitVec.ofNat 16 (sourceSize src)
        cyc := cycAfter s (base + (readOperand src s).crossed.toNat)
        ppuLog := (readOperand src s).after.ppuLog } := by
  have same := h.sameCounters (readOperand src s).value s
  rw [readInstr, readOperand_after, h.setPpuLog, advance_eq]
  simp only [State.setPpuLog, same.pc, same.cyc, same.cfg, cycAfter]

/-- What a read-modify-write instruction answers in memory form: its one read, its one write, and the flags. -/
theorem modifyInstr_mem_eq (f : Byte → Flags → Byte × Flags) (m : MemOperand) (base : Nat) (s : State) :
    modifyInstr f (.mem m) base s = .next
      { memWrite (resolve m s).ea (f (memRead (resolve m s).ea (resolve m s).after).1 s.p).1
          (memRead (resolve m s).ea (resolve m s).after).2 with
        p := (f (memRead (resolve m s).ea (resolve m s).after).1 s.p).2
        pc := s.pc + BitVec.ofNat 16 (memSizeOf m)
        cyc := cycAfter s base } := by
  simp [modifyInstr, State.setP, cycAfter]

/-- The form has its bytes, and reads its operand to do `f` with it. -/
structure ReadsWith (f : Byte → State → State) (form : ReadForm) : Prop where
  bytes : encode form.instr = form.opcode :: sourceBytes form.source
  meaning : ∀ s, exec form.instr s = readInstr f form.source form.cycles s

/-- The form has its bytes, and puts the result of `f` into its place. -/
structure ModifiesWith (f : Byte → Flags → Byte × Flags) (form : ModifyForm) : Prop where
  bytes : encode form.instr = form.opcode :: placeBytes form.place
  meaning : ∀ s, exec form.instr s = modifyInstr f form.place form.cycles s

theorem reads_of_readsWith {op : Operation} {f : Byte → State → State} (h : ReadOp op f)
    {forms : Byte → Word → List ReadForm} (each : ∀ b w, ∀ form ∈ forms b w, ReadsWith f form) :
    Reads forms fun s m => f m s := by
  intro s b w form member
  obtain ⟨bytes, meaning⟩ := each b w form member
  refine ⟨bytes, ?_⟩
  rw [meaning, readInstr_eq h, pcPast, bytes, List.length_cons, sourceBytes_length]

theorem modifies_of_modifiesWith {f : Byte → Flags → Byte × Flags} {forms : Byte → Word → List ModifyForm}
    (each : ∀ b w, ∀ form ∈ forms b w, ModifiesWith f form) : Modifies forms f := by
  intro s b w form member
  obtain ⟨bytes, meaning⟩ := each b w form member
  refine ⟨bytes, ?_⟩
  have past : pcPast form.instr s = s.pc + BitVec.ofNat 16 (placeOperand form.place).mode.size := by
    rw [pcPast, bytes, List.length_cons, placeBytes_length]
  rw [meaning, past]
  cases form.place with
  | acc => rfl
  | mem m => exact modifyInstr_mem_eq f m form.cycles s

theorem plain_of_impliedInstr {op : Operation} {f : State → State} (h : ImpliedOp op f) {form : PlainForm}
    (bytes : encode form.instr = [form.opcode]) (meaning : ∀ s, exec form.instr s = impliedInstr f form.cycles s) :
    Plain form f := by
  intro s
  have same := h.sameCounters s
  refine ⟨bytes, ?_⟩
  rw [meaning, impliedInstr, advance_eq]
  simp only [same.pc, same.cyc, same.cfg, pcPast, cycAfter, bytes, List.length_singleton]

/-! Carry and signed overflow (40_arithmetic_logic.md R143, R145, R146) -/

theorem bit7_eq_decide (x : Byte) : x[7] = decide (128 ≤ x.toNat) :=
  x.msb_eq_decide

theorem aluAdc_carry_iff (a m : Byte) (p : Flags) :
    (aluAdc a m p).2.c = true ↔ a.toNat + m.toNat + p.c.toNat > 255 :=
  decide_eq_true_iff

/-- `V` after a sum, as signs: both operands have one, and the result the other. -/
theorem aluAdc_overflow_iff_signs (a m : Byte) (p : Flags) :
    (aluAdc a m p).2.v = true ↔ a[7] = m[7] ∧ (aluAdc a m p).1[7] ≠ a[7] := by
  change ((a ^^^ (aluAdc a m p).1) &&& (m ^^^ (aluAdc a m p).1))[7] = true ↔ _
  rw [BitVec.getElem_and, BitVec.getElem_xor, BitVec.getElem_xor]
  generalize a[7] = x, m[7] = y, (aluAdc a m p).1[7] = r
  revert x y r
  decide

/-- `V` after a sum, as the signed sum with carry: it does not fit a byte. -/
theorem aluAdc_overflow_iff (a m : Byte) (p : Flags) :
    (aluAdc a m p).2.v = true ↔ a.toInt + m.toInt + p.c.toNat < -128 ∨ 127 < a.toInt + m.toInt + p.c.toNat := by
  have result : (aluAdc a m p).1.toNat = (a.toNat + m.toNat + p.c.toNat) % 256 := BitVec.toNat_ofNat _ _
  have ha := a.isLt
  have hm := m.isLt
  have hc := p.c.toNat_le
  rw [aluAdc_overflow_iff_signs]
  simp only [bit7_eq_decide, BitVec.toInt_eq_toNat_cond, result, decide_eq_decide, ne_eq]
  omega

/-- `A - m - (1 - C)` is `A + (0xFF - m) + C` less 0x100. -/
theorem difference_eq_complement_sum (a m : Byte) (c : Bool) :
    (a.toNat : Int) - m.toNat - (1 - c.toNat) = ((a.toNat + (~~~m).toNat + c.toNat : Nat) : Int) + (-0x100) := by
  have hm := m.isLt
  rw [BitVec.toNat_not]
  omega

theorem byte_ofInt_sub_page (n : Nat) : BitVec.ofInt 8 ((n : Int) + (-0x100)) = BitVec.ofNat 8 n := by
  rw [BitVec.ofInt_add, BitVec.ofInt_natCast]
  exact BitVec.add_zero _

theorem byte_ofInt_emod (t : Int) : BitVec.ofInt 8 (t % 0x100) = BitVec.ofInt 8 t := by
  apply BitVec.eq_of_toNat_eq
  simp [BitVec.toNat_ofInt]

/-- The sign rule of a difference is the sign rule of the sum with the complement. -/
theorem difference_sign_rule (a m r : Byte) :
    ((a ^^^ m) &&& (a ^^^ r))[7] = ((a ^^^ r) &&& (~~~m ^^^ r))[7] := by
  simp only [BitVec.getElem_and, BitVec.getElem_xor, BitVec.getElem_not]
  generalize a[7] = x, m[7] = y, r[7] = z
  revert x y z
  decide

theorem aluSbc_eq_aluAdc_not (a m : Byte) (p : Flags) : aluSbc a m p = aluAdc a (~~~m) p := by
  have carry (n : Nat) : (n : Int) + (-0x100) ≥ 0 ↔ n > 0xFF := by omega
  simp only [aluSbc, aluAdc, difference_eq_complement_sum, byte_ofInt_sub_page, carry, difference_sign_rule]

theorem toInt_complement (m : Byte) : (~~~m).toInt = -m.toInt - 1 := by
  have hm := m.isLt
  simp only [BitVec.toInt_eq_toNat_cond, BitVec.toNat_not]
  omega

/-- Settles O35: the carry and the two readings of the overflow of the sum. -/
theorem adcCarryAndOverflowAreExact : Obligations.AdcCarryAndOverflowAreExact := by
  unfold Obligations.AdcCarryAndOverflowAreExact
  intro s t m h
  cases h
  exact ⟨aluAdc_carry_iff s.a m s.p, aluAdc_overflow_iff_signs s.a m s.p, aluAdc_overflow_iff s.a m s.p⟩

/-- Settles O36: the two ALU operations agree, and the signed complement turns the exact sum into the difference. -/
theorem sbcIsAdcOfTheComplement : Obligations.SbcIsAdcOfTheComplement := by
  unfold Obligations.SbcIsAdcOfTheComplement
  intro s t m
  have sbcIsAdc : opSbc m s = opAdc (~~~m) s := by rw [opSbc, aluSbc_eq_aluAdc_not, opAdc]
  have same : exec (.sbcImm m) s = exec (.adcImm (~~~m)) s :=
    congrArg (fun u => Host.Outcome.next (advance 2 2 u)) sbcIsAdc
  refine ⟨same, fun h => ?_⟩
  obtain ⟨-, -, overflow⟩ := adcCarryAndOverflowAreExact s t (~~~m) (same.symm.trans h)
  have signedSum : s.a.toInt + (~~~m).toInt + s.p.c.toNat = s.a.toInt - m.toInt - (1 - s.p.c.toNat) := by
    rw [toInt_complement]
    omega
  rw [overflow, signedSum]

/-! The instructions (40_arithmetic_logic.md R145-R159) -/

/-- Settles O33: the sum and its flags, as `opAdc` sets them. -/
theorem adcAddsWithCarry : Obligations.AdcAddsWithCarry :=
  reads_of_readsWith .adc fun _ _ _ member => by fin_cases member <;> exact ⟨rfl, fun _ => rfl⟩

/-- Settles O34: the difference and its flags, as `opSbc` sets them, the byte of `t` being that of `t` modulo 0x100. -/
theorem sbcSubtractsWithBorrow : Obligations.SbcSubtractsWithBorrow := by
  unfold Obligations.SbcSubtractsWithBorrow
  simp only [byte_ofInt_emod]
  exact reads_of_readsWith .sbc fun _ _ _ member => by fin_cases member <;> exact ⟨rfl, fun _ => rfl⟩

/-- Settles O37: the three operations load their result into `A`. -/
theorem logicOperationsIntoA : Obligations.LogicOperationsIntoA := by
  unfold Obligations.LogicOperationsIntoA
  refine ⟨reads_of_readsWith .and ?_, reads_of_readsWith .ora ?_, reads_of_readsWith .eor ?_⟩
  all_goals
    intro b w form member
    fin_cases member <;> exact ⟨rfl, fun _ => rfl⟩

/-- Settles O38: `BIT` sets the flags of `aluBit` only. -/
theorem bitTestsWithoutWritingA : Obligations.BitTestsWithoutWritingA :=
  reads_of_readsWith .bit fun _ _ _ member => by fin_cases member <;> exact ⟨rfl, fun _ => rfl⟩

/-- Settles O39: the three compares set the flags of `aluCompare` only, each with its register. -/
theorem comparesSetFlagsOnly : Obligations.ComparesSetFlagsOnly := by
  unfold Obligations.ComparesSetFlagsOnly
  refine ⟨reads_of_readsWith .cmp ?_, reads_of_readsWith .cpx ?_, reads_of_readsWith .cpy ?_⟩
  all_goals
    intro b w form member
    fin_cases member <;> exact ⟨rfl, fun _ => rfl⟩

/-- Settles O40: the two operations put the result of `aluInc` or `aluDec` into their place. -/
theorem incAndDecChangeOneMemoryByte : Obligations.IncAndDecChangeOneMemoryByte := by
  unfold Obligations.IncAndDecChangeOneMemoryByte
  refine ⟨modifies_of_modifiesWith ?_, modifies_of_modifiesWith ?_⟩
  all_goals
    intro b w form member
    fin_cases member <;> exact ⟨rfl, fun _ => rfl⟩

/-- Settles O41: the four operations have no operand and step their register. -/
theorem indexRegistersStepByOne : Obligations.IndexRegistersStepByOne :=
  ⟨plain_of_impliedInstr .inx rfl fun _ => rfl, plain_of_impliedInstr .iny rfl fun _ => rfl,
    plain_of_impliedInstr .dex rfl fun _ => rfl, plain_of_impliedInstr .dey rfl fun _ => rfl⟩

end Sys2Proof.Machine
end

section
/-! PROOFS for 41_shift_rotate.md. A rotate puts the old carry beside the shifted byte, where the two share no bit, so
that the bitwise or of the model is the sum of the statement. -/

namespace Sys2Proof.Machine

open Sys2Proof.Stated

/-! The byte of a rotate as a sum (41_shift_rotate.md R203, R204) -/

theorem bitByte_toNat (c : Bool) : (bitByte c).toNat = c.toNat := by
  cases c <;> rfl

/-- The carry that comes in at bit 0 of a byte shifted left. -/
theorem shiftLeft_or_bitByte (m : Byte) (c : Bool) :
    (m <<< 1) ||| bitByte c = BitVec.ofNat 8 (2 * m.toNat + c.toNat) := by
  have hc := c.toNat_le
  have disjoint : 2 ^ 1 * (m.toNat % 128) + c.toNat = 2 ^ 1 * (m.toNat % 128) ||| c.toNat :=
    Nat.two_pow_add_eq_or_of_lt (by omega) _
  have shifted : (m <<< 1).toNat = 2 ^ 1 * (m.toNat % 128) := by
    rw [BitVec.toNat_shiftLeft, Nat.shiftLeft_eq]
    omega
  apply BitVec.eq_of_toNat_eq
  rw [BitVec.toNat_or, shifted, bitByte_toNat, ← disjoint, BitVec.toNat_ofNat]
  omega

/-- The carry that comes in at bit 7 of a byte shifted right. -/
theorem shiftRight_or_bitByte (m : Byte) (c : Bool) :
    (m >>> 1) ||| (bitByte c <<< 7) = BitVec.ofNat 8 (m.toNat / 2 + 128 * c.toNat) := by
  have hc := c.toNat_le
  have hm := m.isLt
  have disjoint : 2 ^ 7 * c.toNat + m.toNat / 2 = 2 ^ 7 * c.toNat ||| m.toNat / 2 :=
    Nat.two_pow_add_eq_or_of_lt (by omega) _
  have carry : (bitByte c <<< 7).toNat = 2 ^ 7 * c.toNat := by
    rw [BitVec.toNat_shiftLeft, Nat.shiftLeft_eq, bitByte_toNat]
    omega
  have shifted : (m >>> 1).toNat = m.toNat / 2 := by
    rw [BitVec.toNat_ushiftRight, Nat.shiftRight_eq_div_pow, pow_one]
  apply BitVec.eq_of_toNat_eq
  rw [BitVec.toNat_or, shifted, carry, Nat.or_comm, ← disjoint, BitVec.toNat_ofNat]
  omega

/-! The instructions (41_shift_rotate.md R201-R204) -/

/-- Settles O42: the four operations put the result of `aluAsl`, `aluLsr`, `aluRol` or `aluRor` into their place, the
rotated byte being that of the sum. -/
theorem shiftsAndRotatesMoveOneBit : Obligations.ShiftsAndRotatesMoveOneBit := by
  unfold Obligations.ShiftsAndRotatesMoveOneBit
  simp only [← shiftLeft_or_bitByte, ← shiftRight_or_bitByte]
  refine ⟨modifies_of_modifiesWith ?_, modifies_of_modifiesWith ?_, modifies_of_modifiesWith ?_,
    modifies_of_modifiesWith ?_⟩
  all_goals
    intro b w form member
    fin_cases member <;> exact ⟨rfl, fun _ => rfl⟩

end Sys2Proof.Machine
end

section
/-! PROOFS for 42_control_transfer.md. Every control transfer is `branchInstr` or `transferInstr`; the operation it runs
is said once as an equation on the whole state, to which the instruction only adds its cost. -/

namespace Sys2Proof.Machine

open Sys2Proof.Stated

/-! The branches (42_control_transfer.md R220-R228) -/

/-- The target as a signed sum: a byte read signed is its integer value modulo 0x10000. -/
theorem branchTarget_eq_ofInt (off : Byte) (s : State) :
    branchTarget off s = BitVec.ofInt 16 (((s.pc + 2).toNat : Int) + off.toInt) := by
  rw [BitVec.ofInt_add, BitVec.ofInt_natCast, BitVec.ofNat_toNat, BitVec.setWidth_eq]
  rfl

theorem branchCost_eq_ite (a b : Word) :
    2 + (1 + (pagesDiffer a b).toNat) = if highByte a = highByte b then 3 else 4 := by
  by_cases h : highByte a = highByte b <;> simp [pagesDiffer, h]

theorem branchInstr_not_taken (off : Byte) (s : State) :
    branchInstr false off 2 s = .next { s with pc := s.pc + 2, cyc := cycAfter s 2 } := rfl

theorem branchInstr_taken (off : Byte) (s : State) :
    branchInstr true off 2 s = .next
      { s with
        pc := branchTarget off s
        cyc := cycAfter s (if highByte (s.pc + 2) = highByte (branchTarget off s) then 3 else 4) } := by
  rw [← branchCost_eq_ite]
  rfl

theorem branchForms_encode_exec (off : Byte) (s : State) : ∀ f ∈ branchForms off s,
    encode f.2.2 = [f.1, off] ∧ exec f.2.2 s = branchInstr f.2.1 off 2 s := by
  intro f member
  fin_cases member <;> exact ⟨rfl, rfl⟩

/-- Settles O43: each form is the shared branch under its own condition, not taken or taken. -/
theorem branchesFollowTheirConditions : Obligations.BranchesFollowTheirConditions := by
  unfold Obligations.BranchesFollowTheirConditions
  intro s off f member
  obtain ⟨bytes, meaning⟩ := branchForms_encode_exec off s f member
  refine ⟨bytes, fun condition => ?_, fun condition => ?_⟩
  · rw [meaning, condition, branchInstr_not_taken]
  · rw [meaning, condition, branchInstr_taken, branchTarget_eq_ofInt]

/-! The other transfers, from the state their operation ends in (30_encoding.md R107, R108) -/

theorem transferInstr_of_eq {f : State → State} {s u : State} (base : Nat) (h : f s = u) :
    transferInstr f base s = .next { u with cyc := cycAfter u base } := by
  rw [transferInstr, h]
  rfl

/-! The jumps (42_control_transfer.md R229, R230) -/

/-- The high byte of an indirect target is on the pointer's page: its low byte is incremented on its own. -/
theorem jumpHighAddress_eq_wordOf (w : Word) : jumpHighAddress w = wordOf (lowByte w + 1) (highByte w) := by
  have low : lowByte (jumpHighAddress w) = lowByte w + 1 := by
    simp only [jumpHighAddress, lowByte_eq_setWidth, BitVec.setWidth_or, BitVec.setWidth_and,
      BitVec.setWidth_add _ _ (show 8 ≤ 16 by decide)]
    have noHighMask : BitVec.setWidth 8 (0xFF00 : Word) = 0#8 := by decide
    have lowMask : BitVec.setWidth 8 (0x00FF : Word) = BitVec.allOnes 8 := by decide
    rw [noHighMask, lowMask, BitVec.and_zero, BitVec.zero_or, BitVec.and_allOnes]
    rfl
  have high : highByte (jumpHighAddress w) = highByte w := by
    simp only [jumpHighAddress, highByte, BitVec.extractLsb'_or, BitVec.extractLsb'_and]
    have highMask : BitVec.extractLsb' 8 8 (0xFF00 : Word) = BitVec.allOnes 8 := by decide
    have noLowMask : BitVec.extractLsb' 8 8 (0x00FF : Word) = 0#8 := by decide
    rw [highMask, noLowMask, BitVec.and_zero, BitVec.or_zero, BitVec.and_allOnes]
  rw [← low, ← high, Laws.wordOf_lowByte_highByte]

theorem opJmpIndirect_eq (w : Word) (s : State) :
    opJmpIndirect w s =
      let lo := memRead w s
      let hi := memRead (wordOf (lowByte w + 1) (highByte w)) lo.2
      { s with pc := wordOf lo.1 hi.1, ppuLog := hi.2.ppuLog } := by
  simp only [opJmpIndirect, jumpTarget, jumpHighAddress_eq_wordOf]
  rw [memRead_after _ (memRead w s).2, memRead_after w s]
  rfl

/-- Settles O44: a jump sets `PC`, and the reads of the indirect one change the device history only. -/
theorem jumpsSetPc : Obligations.JumpsSetPc := by
  unfold Obligations.JumpsSetPc
  intro s w
  exact ⟨rfl, rfl, rfl, (transferInstr_of_eq 5 (opJmpIndirect_eq w s) :)⟩

/-! The subroutine call and its return (42_control_transfer.md R231, R232) -/

theorem opJsr_eq (w : Word) (s : State) :
    opJsr w s =
      { s with
        mem := (s.mem.write (stackAddress s.sp) (highByte (s.pc + 2))).write (stackAddress (s.sp - 1))
          (lowByte (s.pc + 2))
        sp := s.sp - 2
        pc := w } := by
  simp only [opJsr, push_eq, State.setPc, sub_sub]
  rfl

theorem opRts_eq (s : State) :
    opRts s =
      { s with
        pc := wordOf (s.mem.read (stackAddress (s.sp + 1))) (s.mem.read (stackAddress (s.sp + 2))) + 1
        sp := s.sp + 2 } := by
  simp only [opRts, pop_eq, State.setPc, add_assoc]
  rfl

/-- Settles O45: the two pushes and the new `PC`, then the cost. -/
theorem jsrPushesItsLastByteAddress : Obligations.JsrPushesItsLastByteAddress := by
  unfold Obligations.JsrPushesItsLastByteAddress
  intro s w
  exact ⟨rfl, (transferInstr_of_eq 6 (opJsr_eq w s) :)⟩

/-- Settles O46: the two pops and the new `PC`, then the cost. -/
theorem rtsReturnsPastThePushedAddress : Obligations.RtsReturnsPastThePushedAddress := by
  unfold Obligations.RtsReturnsPastThePushedAddress
  intro s
  exact ⟨rfl, (transferInstr_of_eq 6 (opRts_eq s) :)⟩

/-- Neighbouring stack bytes are two cells, also where the offset wraps. -/
theorem stackAddress_ne_sub_one (sp : Byte) : stackAddress sp ≠ stackAddress (sp - 1) := by
  intro same
  have := stackAddress_injective same
  bv_omega

/-- A return from the state a call leaves, whatever the cycle counter holds. -/
theorem opRts_charge_opJsr (n : Nat) (w : Word) (s : State) :
    opRts (charge n (opJsr w s)) = { charge n (opJsr w s) with pc := s.pc + 3, sp := s.sp } := by
  have low : s.sp - 2 + 1 = s.sp - 1 := by bv_omega
  have high : s.sp - 2 + 2 = s.sp := by bv_omega
  have past : s.pc + 2 + 1 = s.pc + 3 := by bv_omega
  simp only [opRts_eq, opJsr_eq, charge_eq, low, high, Memory.read_write_self,
    Memory.read_write_of_ne _ _ (stackAddress_ne_sub_one s.sp), Laws.wordOf_lowByte_highByte, past]

/-- Settles O49: the return pops what the call pushed, the address of the call's last byte, and adds one. -/
theorem jsrThenRtsReturnsAfterTheCall : Obligations.JsrThenRtsReturnsAfterTheCall := by
  unfold Obligations.JsrThenRtsReturnsAfterTheCall
  intro s w
  refine ⟨charge 6 (opJsr w s), charge 6 (opRts (charge 6 (opJsr w s))), rfl, rfl, ?_⟩
  rw [opRts_charge_opJsr, opJsr_eq]
  exact ⟨rfl, rfl, rfl, rfl, rfl, rfl⟩

/-! The software trap and its return (42_control_transfer.md R233, R234) -/

/-- Settles O47: taking the trap, then the cost. -/
theorem brkTakesTheTrap : Obligations.BrkTakesTheTrap := by
  unfold Obligations.BrkTakesTheTrap
  intro s
  have trap := takeTrap_eq s
  simp only [sub_sub] at trap
  exact ⟨rfl, (transferInstr_of_eq 7 trap :)⟩

/-- Settles O48: returning from the trap, then the cost. -/
theorem rtiRestoresStatusAndPc : Obligations.RtiRestoresStatusAndPc := by
  unfold Obligations.RtiRestoresStatusAndPc
  intro s
  have back := returnFromTrap_eq s
  simp only [add_assoc] at back
  exact ⟨rfl, (transferInstr_of_eq 6 back :)⟩

end Sys2Proof.Machine
end

section
/-! PROOFS for 43_load_store_transfer_stack.md. Loads, transfers and stack operations are the shapes `Reads` and `Plain`
of the operations that give them their meaning; a stack operation is said once as an equation on the whole state. A
store is the shared operation `storeInstr`, for any list of forms. -/

namespace Sys2Proof.Machine

open Sys2Proof.Stated

/-! Loads (43_load_store_transfer_stack.md R260-R263) -/

/-- An informal byte the parameter leaves out has no descriptor. -/
theorem decodeOpcode_isNone_of_informal_not_listed {c : Config} {op : Byte} (informal : op ∈ informalBytes)
    (h : op ∉ c.informalOpcodes) : (decodeOpcode c op).isNone = true := by
  rwa [Option.isNone_iff_eq_none, ← Option.not_isSome_iff_eq_none, decodeOpcode_isSome_of_informal c informal]

theorem laxForms_opcode_informal (b : Byte) (w : Word) : ∀ f ∈ laxForms b w, f.opcode ∈ informalBytes := by
  intro f member
  have informal : ∀ op ∈ ([0xA7, 0xB7, 0xAF, 0xBF, 0xA3, 0xB3] : List Byte), op ∈ informalBytes := by decide
  exact informal f.opcode (List.mem_map_of_mem (f := ReadForm.opcode) member)

/-- Settles O51: the four loads read their operand into their registers; the bytes of `LAX` are informal, and `AB` is
a byte without a descriptor. -/
theorem loadsSetRegisterAndFlags : Obligations.LoadsSetRegisterAndFlags := by
  unfold Obligations.LoadsSetRegisterAndFlags
  refine ⟨reads_of_readsWith .lda ?_, reads_of_readsWith .ldx ?_, reads_of_readsWith .ldy ?_,
    reads_of_readsWith .lax ?_, fun c => ⟨bytesWithoutDescriptorTrap.1 c 0xAB (by decide), fun b w f member =>
      decodeOpcode_isNone_of_informal_not_listed (laxForms_opcode_informal b w f member)⟩⟩
  all_goals
    intro b w form member
    fin_cases member <;> exact ⟨rfl, fun _ => rfl⟩

/-! Stores (43_load_store_transfer_stack.md R264-R266) -/

/-- What a store answers: its one write at the resolved address, after the reads that resolve it. -/
theorem storeInstr_eq (v : Byte) (m : MemOperand) (base : Nat) (s : State) :
    storeInstr v m base s = .next
      { memWrite (resolve m s).ea v (resolve m s).after with
        pc := s.pc + BitVec.ofNat 16 (memSizeOf m)
        cyc := cycAfter s base } := by
  simp [storeInstr, cycAfter]

/-- The form has its bytes, and stores the byte `v` gives. -/
structure StoresWith (v : State → Byte) (form : StoreForm) : Prop where
  bytes : encode form.instr = form.opcode :: form.target.bytes
  meaning : ∀ s, exec form.instr s = storeInstr (v s) form.target form.cycles s

theorem stores_of_storesWith {v : State → Byte} {forms : Byte → Word → List StoreForm}
    (each : ∀ b w, ∀ form ∈ forms b w, StoresWith v form) : Stores forms v := by
  intro s b w form member
  obtain ⟨bytes, meaning⟩ := each b w form member
  refine ⟨bytes, ?_⟩
  rw [meaning, storeInstr_eq, pcPast, bytes, List.length_cons, memOperand_bytes_length, memSizeOf]

/-- Settles O52: each form of the three stores is the shared store of its register. -/
theorem storesWriteOneByte : Obligations.StoresWriteOneByte := by
  unfold Obligations.StoresWriteOneByte
  refine ⟨stores_of_storesWith ?_, stores_of_storesWith ?_, stores_of_storesWith ?_⟩
  all_goals
    intro b w form member
    fin_cases member <;> exact ⟨rfl, fun _ => rfl⟩

/-! Transfers (43_load_store_transfer_stack.md R267-R272) -/

/-- Settles O53: the six transfers have no operand and copy their register. -/
theorem transfersCopyRegisters : Obligations.TransfersCopyRegisters :=
  ⟨plain_of_impliedInstr .tax rfl fun _ => rfl, plain_of_impliedInstr .tay rfl fun _ => rfl,
    plain_of_impliedInstr .txa rfl fun _ => rfl, plain_of_impliedInstr .tya rfl fun _ => rfl,
    plain_of_impliedInstr .tsx rfl fun _ => rfl, plain_of_impliedInstr .txs rfl fun _ => rfl⟩

/-! The stack operations (43_load_store_transfer_stack.md R273-R276) -/

theorem opPla_eq (s : State) :
    opPla s =
      { s with
        a := s.mem.read (stackAddress (s.sp + 1))
        p := setNZ (s.mem.read (stackAddress (s.sp + 1))) s.p
        sp := s.sp + 1 } := by
  rw [opPla, pop_eq]
  rfl

theorem opPlp_eq (s : State) :
    opPlp s =
      { s with
        p := pullStatus s.cfg (s.mem.read (stackAddress (s.sp + 1))) s.p
        sp := s.sp + 1 } := by
  rw [opPlp, pop_eq]
  rfl

/-- A form without an operand has any effect that agrees with its operation. -/
theorem plain_of_impliedInstr_of_eq {op : Operation} {f effect : State → State} (h : ImpliedOp op f)
    {form : PlainForm} (bytes : encode form.instr = [form.opcode])
    (meaning : ∀ s, exec form.instr s = impliedInstr f form.cycles s) (same : ∀ s, f s = effect s) :
    Plain form effect := by
  rw [← funext same]
  exact plain_of_impliedInstr h bytes meaning

/-- Settles O54: the two pushes and the two pops, with the flags `PLA` and `PLP` take from the byte they pull. -/
theorem stackOperationsMoveOneByte : Obligations.StackOperationsMoveOneByte :=
  ⟨plain_of_impliedInstr_of_eq .pha rfl (fun _ => rfl) fun s => push_eq s.a s,
    plain_of_impliedInstr_of_eq .php rfl (fun _ => rfl) fun s => push_eq (pushedStatus s.p) s,
    plain_of_impliedInstr_of_eq .pla rfl (fun _ => rfl) opPla_eq,
    plain_of_impliedInstr_of_eq .plp rfl (fun _ => rfl) opPlp_eq⟩

end Sys2Proof.Machine
end

section
/-! PROOFS for 44_flags_nop.md. A flag operation and a one-byte no-operation are the shape `Plain` of the operation that
gives them their meaning. A no-operation with a memory operand is the shared operation `nopInstr`: none of its forms
reads memory to resolve its address, so the only access it can make is the one read of its operand. -/

namespace Sys2Proof.Machine

open Sys2Proof.Stated

/-! Flag operations (44_flags_nop.md R300-R306) -/

/-- Settles O55: the seven flag operations have no operand and write their flag. -/
theorem flagOperationsTouchOneFlag : Obligations.FlagOperationsTouchOneFlag :=
  ⟨plain_of_impliedInstr .clc rfl fun _ => rfl, plain_of_impliedInstr .sec rfl fun _ => rfl,
    plain_of_impliedInstr .cli rfl fun _ => rfl, plain_of_impliedInstr .sei rfl fun _ => rfl,
    plain_of_impliedInstr .cld rfl fun _ => rfl, plain_of_impliedInstr .sed rfl fun _ => rfl,
    plain_of_impliedInstr .clv rfl fun _ => rfl⟩

/-! No-operations (44_flags_nop.md R307, R308) -/

/-- What a no-operation answers when its address is resolved without a bus access: the history shows its operand read
only if the parameter asks for that read and the address is in the device window. -/
theorem nopInstr_eq_of_direct {m : MemOperand} {s : State} (direct : (resolve m s).after = s) (base : Nat) :
    nopInstr m base s = .next
      { s with
        pc := s.pc + BitVec.ofNat 16 (memSizeOf m)
        cyc := cycAfter s (base + (resolve m s).crossed.toNat)
        ppuLog := if s.cfg.nopReadsOperand = true ∧ inWindow (resolve m s).ea = true then
            .read (resolve m s).ea :: s.ppuLog
          else s.ppuLog } := by
  rw [nopInstr, direct]
  cases reads : s.cfg.nopReadsOperand with
  | false => simp [cycAfter]
  | true =>
    rw [if_pos rfl, memRead_after, memRead_ppuLog]
    simp [cycAfter, State.setPpuLog]

/-- The form has its bytes, resolves its address without a bus access, and is a no-operation there. -/
structure NopsAt (form : StoreForm) : Prop where
  bytes : encode form.instr = form.opcode :: form.target.bytes
  direct : ∀ s, (resolve form.target s).after = s
  meaning : ∀ s, exec form.instr s = nopInstr form.target form.cycles s

theorem nopMemoryForms_nopsAt (b : Byte) (w : Word) : ∀ form ∈ nopMemoryForms b w, NopsAt form := by
  intro form member
  fin_cases member <;> exact ⟨rfl, fun _ => rfl, fun _ => rfl⟩

theorem nopForms_opcode_informal :
    ∀ op ∈ nopOneByteForms.map (·.opcode) ++ (nopImmediateForms 0).map (·.opcode) ++
      (nopMemoryForms 0 0).map (·.opcode), op ∈ informalBytes := by
  decide

/-- Settles O56: the forms without a memory operand only advance, the others are `nopInstr` at an address resolved
without a bus access, and the bytes of all but `EA` are informal. -/
theorem nopsOnlyAdvance : Obligations.NopsOnlyAdvance := by
  unfold Obligations.NopsOnlyAdvance
  refine ⟨plain_of_impliedInstr .nop rfl fun _ => rfl, fun form member => ?_, fun s b form member => ?_,
    fun s b w form member => ?_, fun c op member =>
      decodeOpcode_isNone_of_informal_not_listed (nopForms_opcode_informal op member)⟩
  · fin_cases member <;> exact plain_of_impliedInstr .nop rfl fun _ => rfl
  · fin_cases member <;> exact ⟨rfl, rfl⟩
  · obtain ⟨bytes, direct, meaning⟩ := nopMemoryForms_nopsAt b w form member
    refine ⟨bytes, ?_⟩
    rw [meaning, nopInstr_eq_of_direct (direct s), pcPast, bytes, List.length_cons, memOperand_bytes_length, memSizeOf]

end Sys2Proof.Machine
end

section
/-! PROOFS for 60_exceptions.md. What the host observes of a step that takes no effect, a run asked of a faulted state,
and the return from the trap over the stack that taking the trap left. -/

namespace Sys2Proof.Machine

/-! The decode error (60_exceptions.md R321, R322) -/

/-- What the host observes of the decode error: the latch, and the one read of the opcode byte. -/
theorem stepLatched_of_decodeError {s : State} {e : DecodeError} (h : step s = .fault (.decodeError e)) :
    stepLatched s =
      { s with
        fault := some e
        ppuLog := if inWindow s.pc then .read s.pc :: s.ppuLog else s.ppuLog } := by
  simp only [stepLatched, h]
  rw [memRead_after, memRead_ppuLog]
  rfl

/-- Settles O9: a byte without a descriptor makes the fetch illegal, and the fault is then latched after the one read. -/
theorem decodeErrorChangesOnlyTheLatch : Obligations.DecodeErrorChangesOnlyTheLatch := by
  unfold Obligations.DecodeErrorChangesOnlyTheLatch
  intro s ready noDescriptor
  have raised := step_illegal ready (fetch_none (Option.isNone_iff_eq_none.mp noDescriptor))
  exact ⟨raised, stepLatched_of_decodeError raised⟩

/-! The latched fault (60_exceptions.md R323, 70_reset_and_hazards.md R365) -/

theorem stepLatched_of_latched {s : State} {e : DecodeError} (h : s.fault = some e) : stepLatched s = s := by
  simp only [stepLatched, step_latched h]

theorem runTraced_ending_of_latched (n : Nat) {s : State} {e : DecodeError} (h : s.fault = some e) :
    (runTraced n s).ending = .faulted (.stopped e) := by
  cases n with
  | zero => simp only [runTraced, endWithoutStep, h]
  | succ k => simp only [runTraced, step_latched h]

theorem step_next_fault {s t : State} (h : step s = .next t) : t.fault = none := by
  obtain ⟨⟨notLatched, -⟩, -⟩ := step_next_inv h
  rw [(step_keeps h).fault, notLatched]

theorem resetMachine_fault (s : State) : (resetMachine s).fault = none := by
  obtain ⟨reset, -⟩ := resetSetsEveryRegister
  rw [reset s]

/-- Settles O10: each clause is one lemma. -/
theorem latchedFaultStopsTheCore : Obligations.LatchedFaultStopsTheCore := by
  unfold Obligations.LatchedFaultStopsTheCore
  refine ⟨fun s e latched => ⟨step_latched latched, stepLatched_of_latched latched⟩, fun n s e latched => ?_,
    fun s t => step_next_fault, resetMachine_fault⟩
  rw [runTraced_ending_of_latched n latched]
  nofun

/-! The software trap and its return (60_exceptions.md R324, R325) -/

/-- Stack bytes two apart are two cells, also where the offset wraps. -/
theorem stackAddress_ne_sub_two (sp : Byte) : stackAddress sp ≠ stackAddress (sp - 1 - 1) :=
  mt stackAddress_injective (by bv_omega)

/-- A return from the state the trap leaves, whatever the cycle counter holds: the three bytes pushed are popped. -/
theorem returnFromTrap_charge_takeTrap (n : Nat) (s : State) :
    returnFromTrap (charge n (takeTrap s)) =
      { charge n (takeTrap s) with
        p := { s.p with b := if s.cfg.pullLoadsB then true else s.p.b }
        pc := s.pc + BitVec.ofNat 16 s.cfg.brkReturnOffset.val
        sp := s.sp } := by
  simp only [returnFromTrap_eq, takeTrap_eq, charge_eq, sub_add_cancel, Memory.read_write_self,
    Memory.read_write_of_ne _ _ (stackAddress_ne_sub_one _), Memory.read_write_of_ne _ _ (stackAddress_ne_sub_two _),
    pullStatus_pushedStatus, Laws.wordOf_lowByte_highByte]

/-- Settles O50: the return pops what the trap pushed; the default offset is 0 and the default pull leaves `B`. -/
theorem brkThenRtiRestoresPcAndStatus : Obligations.BrkThenRtiRestoresPcAndStatus := by
  unfold Obligations.BrkThenRtiRestoresPcAndStatus
  intro s
  refine ⟨charge 7 (takeTrap s), charge 6 (returnFromTrap (charge 7 (takeTrap s))), rfl, rfl, ?_⟩
  rw [returnFromTrap_charge_takeTrap, takeTrap_eq]
  refine ⟨rfl, rfl, rfl, rfl, rfl, rfl, fun isDefault => ?_⟩
  simp [isDefault, defaults]

end Sys2Proof.Machine
end

section
/-! PROOFS for 70_reset_and_hazards.md. The trace line of a step, the step before `PC` is seeded, runs with their trace
and their end, and the loading of a program image and of a cartridge. -/

namespace Sys2Proof.Machine

open Sys2Proof.Laws

/-! The fetch, from what it answers (30_encoding.md R80, R107) -/

/-- A fetched instruction is made by the descriptor of the opcode byte, so the bytes fetched are its encoding. -/
theorem fetch_instruction_bytes {s after : State} {i : Instr} {bytes : List Byte}
    (h : fetch s = .instruction i bytes after) : bytes = encode i := by
  cases descriptor : decodeOpcode s.cfg (memRead s.pc s).1 with
  | none => simp [fetch_none descriptor] at h
  | some e =>
    obtain ⟨-, entry⟩ := decodeOpcode_eq_some_iff.mp descriptor
    cases e with
    | one j =>
      cases (fetch_one descriptor).symm.trans h
      exact (encode_of_applyEntry (operand := []) entry rfl).symm
    | two f =>
      cases (fetch_two descriptor).symm.trans h
      exact (encode_of_applyEntry (operand := [_]) entry rfl).symm
    | three f =>
      cases (fetch_three descriptor).symm.trans h
      exact (encode_of_applyEntry (operand := [_, _]) entry rfl).symm

theorem fetch_illegal_inv {s after : State} {op : Byte} (h : fetch s = .illegal op after) :
    decodeOpcode s.cfg op = none := by
  cases descriptor : decodeOpcode s.cfg (memRead s.pc s).1 with
  | none =>
    cases (fetch_none descriptor).symm.trans h
    exact descriptor
  | some e =>
    obtain ⟨i, bytes, found, hfetch⟩ := (exists_fetch_eq_instruction_iff s).mpr (by rw [descriptor]; rfl)
    simp [hfetch] at h

/-! The trace line (70_reset_and_hazards.md R362, R363) -/

theorem traceLine_latched {s : State} {e : DecodeError} (h : s.fault = some e) : traceLine s = none := by
  simp only [traceLine, h]

theorem traceLine_unseeded {s : State} (hp : s.pcSeeded = false) : traceLine s = none := by
  cases hf : s.fault with
  | some e => exact traceLine_latched hf
  | none => simp [traceLine, hf, hp]

theorem traceLine_illegal {s after : State} {op : Byte} (hr : s.Ready) (h : fetch s = .illegal op after) :
    traceLine s = none := by
  simp [traceLine, hr.1, hr.2, h]

theorem traceLine_instruction {s after : State} {i : Instr} {bytes : List Byte} (hr : s.Ready)
    (h : fetch s = .instruction i bytes after) :
    traceLine s = some ⟨s.pc, bytes, operationText s.cfg i, operandText i.row.operand s, s.a, s.x, s.y, getStatus s.p,
      s.sp, cycField s⟩ := by
  simp [traceLine, hr.1, hr.2, h]

/-- A state offers a line exactly when its step completes (92_eei_decisions.md D34). -/
theorem traceLine_isSome_iff (s : State) : (traceLine s).isSome = true ↔ ∃ t, step s = .next t := by
  constructor
  · intro line
    cases hf : s.fault with
    | some e => simp [traceLine_latched hf] at line
    | none =>
      cases hp : s.pcSeeded with
      | false => simp [traceLine_unseeded hp] at line
      | true =>
        cases hfetch : fetch s with
        | illegal op after => simp [traceLine_illegal ⟨hf, hp⟩ hfetch] at line
        | instruction i bytes after =>
          rw [step_instruction ⟨hf, hp⟩ hfetch]
          exact exec_completes i after
  · rintro ⟨t, h⟩
    obtain ⟨ready, i, bytes, after, hfetch, -⟩ := step_next_inv h
    rw [traceLine_instruction ready hfetch]
    rfl

theorem operationText_eq (c : Config) (i : Instr) :
    operationText c i =
      (if i.row.opcode ∈ informalBytes then c.traceInformalPrefix else []) ++ mnemonicText i.row.operation := by
  simp only [operationText, isInformal, List.contains_iff_mem]

/-- Settles O60: a completing step fetched an instruction, whose encoding and registers are on the line; any other state
offers none. -/
theorem traceShowsTheStateBeforeTheStep : Obligations.TraceShowsTheStateBeforeTheStep := by
  unfold Obligations.TraceShowsTheStateBeforeTheStep
  refine ⟨fun s t h => ?_, fun s stuck => ?_⟩
  · obtain ⟨ready, i, bytes, after, hfetch, -⟩ := step_next_inv h
    obtain rfl := fetch_instruction_bytes hfetch
    refine ⟨i, after, hfetch, ?_⟩
    rw [traceLine_instruction ready hfetch, operationText_eq]
    rfl
  · rw [← traceLine_isSome_iff] at stuck
    exact Option.not_isSome_iff_eq_none.mp stuck

/-! The step before `PC` is seeded (70_reset_and_hazards.md R352, R362) -/

theorem stepLatched_of_refused {s : State} {r : Refusal} (h : step s = .refused r) : stepLatched s = s := by
  simp only [stepLatched, h]

/-- Settles O11: the refusal and the missing line, for any unseeded state; construction leaves `PC` unseeded and a reset
seeds it. -/
theorem unseededStepIsRefused : Obligations.UnseededStepIsRefused := by
  unfold Obligations.UnseededStepIsRefused
  refine ⟨fun s notLatched unseeded => ?_, fun c initMem undefinedPc => step_unseeded rfl rfl, fun s => ?_⟩
  · have refused := step_unseeded notLatched unseeded
    exact ⟨refused, traceLine_unseeded unseeded, stepLatched_of_refused refused⟩
  · obtain ⟨reset, -⟩ := resetSetsEveryRegister
    rw [reset s]

/-! Runs (70_reset_and_hazards.md R365) -/

theorem runTraced_of_next {s t : State} (n : Nat) (h : step s = .next t) :
    runTraced (n + 1) s =
      { runTraced n t with trace := (traceLine s).toList ++ (runTraced n t).trace } := by
  simp only [runTraced, h]

theorem runTraced_of_fault {s : State} {r : Fault} (n : Nat) (h : step s = .fault r) :
    runTraced (n + 1) s = ⟨[], stepLatched s, .faulted r⟩ := by
  simp only [runTraced, h]

theorem runTraced_of_refused {s : State} {r : Refusal} (n : Nat) (h : step s = .refused r) :
    runTraced (n + 1) s = ⟨[], s, .refused r⟩ := by
  simp only [runTraced, h]

theorem Inv.setFault {s : State} {e : DecodeError} (h : Inv s) (illegal : decodeOpcode s.cfg e.opcode = none) :
    Inv (s.setFault (some e)) where
  memory_canonical := h.memory_canonical
  history_in_window := h.history_in_window
  cycles_in_range := h.cycles_in_range
  fault_is_illegal e' he := by
    cases he
    exact Option.isNone_iff_eq_none.mpr illegal

/-- The decode error names the opcode byte that the fetch found without a descriptor. -/
theorem step_decodeError_inv {s : State} {e : DecodeError} (h : step s = .fault (.decodeError e)) :
    decodeOpcode s.cfg e.opcode = none := by
  cases hf : s.fault with
  | some e' => simp [step_latched hf] at h
  | none =>
    cases hp : s.pcSeeded with
    | false => simp [step_unseeded hf hp] at h
    | true =>
      cases hfetch : fetch s with
      | illegal op after =>
        cases (step_illegal ⟨hf, hp⟩ hfetch).symm.trans h
        exact fetch_illegal_inv hfetch
      | instruction i bytes after =>
        obtain ⟨t, completes⟩ := exec_completes i after
        simp [step_instruction ⟨hf, hp⟩ hfetch, completes] at h

/-- What the host observes after asking for a step, the latched state after a decode error included. -/
theorem Inv.stepLatched {s : State} (hs : Inv s) : Inv (stepLatched s) := by
  unfold Machine.stepLatched
  split
  case h_1 t h => exact (step_keeps h).inv hs
  case h_2 e h =>
    have read := Keeps.memRead s.pc s
    exact (read.inv hs).setFault (by rw [read.cfg]; exact step_decodeError_inv h)
  case h_3 => exact hs
  case h_4 => exact hs

theorem Inv.runTraced_final {s : State} (hs : Inv s) (n : Nat) : Inv (runTraced n s).final := by
  induction n generalizing s with
  | zero => exact hs
  | succ n ih =>
    cases h : step s with
    | next t =>
      rw [runTraced_of_next n h]
      exact ih ((step_keeps h).inv hs)
    | fault r =>
      rw [runTraced_of_fault n h]
      exact hs.stepLatched
    | refused r =>
      rw [runTraced_of_refused n h]
      exact hs

/-- A run with a normal end has no step that stops, so it is the run of the core, with a line for every step. -/
theorem runTraced_of_runsSafely {n : Nat} {s : State} (safe : RunsSafely n s) :
    (runTraced n s).trace.length = n ∧ Host.Core.run core n s = .next (runTraced n s).final := by
  induction n generalizing s with
  | zero => exact ⟨rfl, rfl⟩
  | succ n ih =>
    cases h : step s with
    | next t =>
      rw [RunsSafely, runTraced_of_next n h] at safe
      obtain ⟨lines, final⟩ := ih safe
      obtain ⟨line, hline⟩ := Option.isSome_iff_exists.mp ((traceLine_isSome_iff s).mpr ⟨t, h⟩)
      have first : core.step s = .next t := h
      rw [runTraced_of_next n h, hline]
      exact ⟨by simp [lines], by simp only [Host.Core.run, first, final]⟩
    | fault r => simp [RunsSafely, runTraced_of_fault n h] at safe
    | refused r => simp [RunsSafely, runTraced_of_refused n h] at safe

/-- Settles O17: both clauses by induction on the number of steps asked for. -/
theorem runsKeepTheInvariantAndTraceEveryStep : Obligations.RunsKeepTheInvariantAndTraceEveryStep := by
  unfold Obligations.RunsKeepTheInvariantAndTraceEveryStep
  exact ⟨fun n s hs => hs.runTraced_final n, fun n s safe => runTraced_of_runsSafely safe⟩

/-! A loaded program image (70_reset_and_hazards.md R351) -/

theorem add_one_add_ofNat (a : Word) (k : Nat) : a + 1 + BitVec.ofNat 16 k = a + BitVec.ofNat 16 (k + 1) := by
  rw [BitVec.add_assoc, BitVec.add_comm 1, BitVec.ofNat_add]
  rfl

/-- Fewer than 0x10000 places on, an address does not come round to itself. -/
theorem ne_add_ofNat_of_lt (a : Word) {k : Nat} (hpos : 0 < k) (hlt : k < 0x10000) : a ≠ a + BitVec.ofNat 16 k := by
  bv_omega

theorem Memory.read_load_of_not_covered {prg : List Byte} {m : Memory} {at0 a : Word}
    (h : ∀ k, k < prg.length → a ≠ at0 + BitVec.ofNat 16 k) : (m.load at0 prg).read a = m.read a := by
  induction prg generalizing m at0 with
  | nil => rfl
  | cons b prg ih =>
    have first : a ≠ at0 := by simpa using h 0 (Nat.zero_lt_succ _)
    have others : ∀ k, k < prg.length → a ≠ at0 + 1 + BitVec.ofNat 16 k := fun k hk => by
      rw [add_one_add_ofNat]
      exact h (k + 1) (Nat.succ_lt_succ hk)
    rw [load, ih others, read_write_of_ne _ _ first]

/-- Byte 0 is written first, and no later byte of an image of at most 0x10000 comes round to its cell. -/
theorem Memory.read_load_covered {prg : List Byte} {m : Memory} {at0 : Word} (fits : prg.length ≤ 0x10000) {k : Nat}
    (hk : k < prg.length) : (m.load at0 prg).read (at0 + BitVec.ofNat 16 k) = prg[k] := by
  induction prg generalizing m at0 k with
  | nil => cases hk
  | cons b prg ih =>
    rw [List.length_cons] at fits hk
    rw [load]
    cases k with
    | zero =>
      have notCovered : ∀ j, j < prg.length → at0 ≠ at0 + 1 + BitVec.ofNat 16 j := fun j hj => by
        rw [add_one_add_ofNat]
        exact ne_add_ofNat_of_lt at0 (Nat.zero_lt_succ j) (by omega)
      rw [BitVec.add_zero, read_load_of_not_covered notCovered, read_write_self, List.getElem_cons_zero]
    | succ k =>
      rw [← add_one_add_ofNat, List.getElem_cons_succ]
      exact ih (by omega) (by omega)

/-- Settles O58: the covered and the other cells, one lemma each. -/
theorem loadedImageIsRead : Obligations.LoadedImageIsRead := by
  unfold Obligations.LoadedImageIsRead
  exact fun s prg at0 fits => ⟨fun k hk => Memory.read_load_covered fits hk,
    fun a notCovered => Memory.read_load_of_not_covered notCovered, rfl⟩

/-! Cartridges (70_reset_and_hazards.md R353, R354, R356) -/

theorem take_eq_of_firstMismatch_eq_none {expected found : List Byte} {n : Nat}
    (h : firstMismatch expected found n = none) (long : expected.length ≤ found.length) :
    found.take expected.length = expected := by
  induction expected generalizing found n with
  | nil => rfl
  | cons e expected ih =>
    cases found with
    | nil => simp at long
    | cons f found =>
      rw [firstMismatch] at h
      split at h
      case isTrue same => rw [List.length_cons, List.take_succ_cons, ih h (by simpa using long), same]
      case isFalse => cases h

/-- What a cartridge file of a given number of banks is (R353), with its PRG data and their address (R354). -/
structure AcceptedCartridge (file prg : List Byte) (at0 : Word) : Prop where
  magic : file.take 4 = cartridgeMagic
  banks : file.getD 4 0 = 1 ∨ file.getD 4 0 = 2
  long : 16 + 0x4000 * (file.getD 4 0).toNat ≤ file.length
  data : prg = (file.drop 16).take (0x4000 * (file.getD 4 0).toNat)
  address : at0 = if file.getD 4 0 = 1 then 0xC000 else 0x8000

/-- The checks of the loader, passed. -/
theorem cartridgePrg_ok_inv {file prg : List Byte} {at0 : Word} (h : cartridgePrg file = .ok (prg, at0)) :
    AcceptedCartridge file prg at0 := by
  unfold cartridgePrg at h
  split at h
  case h_1 => cases h
  case h_2 noMismatch =>
    split at h
    case isTrue => cases h
    case isFalse header =>
      dsimp only at h
      split at h
      case isFalse => cases h
      case isTrue banks =>
        split at h
        case isTrue => cases h
        case isFalse complete =>
          cases h
          rw [List.length_take, List.length_drop] at complete
          have longEnough : cartridgeMagic.length ≤ file.length := by
            simp only [cartridgeMagic, List.length_cons, List.length_nil]
            omega
          exact ⟨take_eq_of_firstMismatch_eq_none noMismatch longEnough, banks, by omega, rfl, rfl⟩

theorem AcceptedCartridge.prg_length {file prg : List Byte} {at0 : Word} (h : AcceptedCartridge file prg at0) :
    prg.length = 0x4000 * (file.getD 4 0).toNat := by
  have := h.long
  rw [h.data, List.length_take, List.length_drop]
  omega

theorem AcceptedCartridge.prg_getElem? {file prg : List Byte} {at0 : Word} (h : AcceptedCartridge file prg at0)
    {k : Nat} (hk : k < prg.length) : prg[k]? = file[16 + k]? := by
  rw [h.prg_length] at hk
  rw [h.data, List.getElem?_take_of_lt hk, List.getElem?_drop]

theorem AcceptedCartridge.ends_at_top {file prg : List Byte} {at0 : Word} (h : AcceptedCartridge file prg at0) :
    at0.toNat + prg.length = 0x10000 := by
  rw [h.prg_length, h.address]
  rcases h.banks with one | two
  · rw [one]; rfl
  · rw [two]; rfl

/-- Settles O59: an accepted file passed every check, so a file that fails one is not accepted. -/
theorem cartridgesEndAtTheTopOfMemory : Obligations.CartridgesEndAtTheTopOfMemory := by
  unfold Obligations.CartridgesEndAtTheTopOfMemory
  refine ⟨fun file prg at0 h => ?_, fun file s bad => ?_⟩
  · have accepted := cartridgePrg_ok_inv h
    exact ⟨accepted.magic, accepted.banks, accepted.prg_length, fun k hk => accepted.prg_getElem? hk,
      accepted.ends_at_top⟩
  · cases h : cartridgePrg file with
    | error e => exact ⟨e, by simp only [loadCartridge, h]⟩
    | ok image =>
      have accepted := cartridgePrg_ok_inv h
      rcases bad with magic | ⟨notOne, notTwo⟩ | short
      · exact absurd accepted.magic magic
      · exact absurd accepted.banks (not_or.mpr ⟨notOne, notTwo⟩)
      · exact absurd accepted.long (Nat.not_le.mpr short)

end Sys2Proof.Machine
end
